-- ==== Sys2Proof/Word.lean ====
section
/-! DEFINITION. The word types of the block: bytes, 16-bit values (00_scope.md R10). -/

namespace Sys2Proof

/-- "A *byte* is an unsigned integer in 0..255" (R10); bit 7 is its most significant bit. -/
abbrev Byte := BitVec 8

/-- A 16-bit unsigned value: seeds, keys (43_security.md R190) and CPU addresses (20_memory.md R50 (b)). -/
abbrev Word16 := BitVec 16

end Sys2Proof
end

