-- ==== Sys2Proof/Config.lean ====
section
/-! DEFINITION. What is fixed for the life of one block instance (00_scope.md R8, R9), what an external handler answers
(42_dispatcher.md R163, R166), and the free values. -/

namespace Sys2Proof

namespace Machine

/-- A request on a function port with its operands, from the host or from a handler (10_state.md R35). -/
inductive FnRequest where
  | checksum (bytes : List Byte)
  | encode (dev mode : Byte) (payload : List Byte)
  | computeKey (seedHi seedLo : Byte)
  | translate (bankId : Byte) (cpuAddr : Word16)
  | patchCheck (cpuAddr : Word16) (len : Nat)
  | patchWrite (bankId : Byte) (cpuAddr : Word16) (data : List Byte)
  deriving DecidableEq, Repr

/-- What a handler called with a whole frame does that the block can see (42_dispatcher.md R163): the function requests it
makes before it returns, in order (10_state.md R35; log 7), and its reply payload, if any. -/
structure HandlerAnswer where
  requests : List FnRequest
  reply : Option (List Byte)
  deriving DecidableEq, Repr, Inhabited

/-- The same for `H_output`, which always returns a status byte (42_dispatcher.md R166). -/
structure OutputAnswer where
  requests : List FnRequest
  status : Byte
  deriving DecidableEq, Repr, Inhabited

end Machine

namespace Config

/-- The names of the parameters of R8 and R9. -/
inductive Parameter where
  | knownIds | lenBias | maxPayload | modes | responseRejected | responseFail | resultAccepted | resultRejected
  | lenSeedRequest | lenSeedResponse | lenKeySubmit | keyConstant | windowBase | bankBase1 | bankBase2 | bankBase3
  | patchBase | patchLen | idleTimeout | transport | bankCode | imageSize
  deriving DecidableEq, Repr

/-- The parity bit of the external transport (R8; "N" in "8N1"). -/
inductive Parity where
  | none | even | odd
  deriving DecidableEq, Repr

/-- The configuration of the external transport (R6, R8); "no rule reads it". -/
structure Transport where
  baud : Nat
  dataBits : Nat
  parity : Parity
  stopBits : Nat
  deriving DecidableEq, Repr

/-- The parameter record of R8 with the parameters R9 adds, "fixed for the life of one block instance". Held in
`State.cfg`, written by no step (10_state.md R37; log 8). The seed source of R9 is a draw: `State.drawIn`, `freeSeed`. -/
structure Profile where
  /-- `KNOWN_IDS` -/
  knownIds : List Byte
  /-- `LEN_BIAS`: lengthByte = LEN_BIAS + 1 + len(payload) -/
  lenBias : Nat
  /-- `MAX_PAYLOAD` -/
  maxPayload : Nat
  /-- `MODES`: the modes that are not gaps -/
  modes : List Byte
  /-- `RESPONSE_REJECTED` -/
  responseRejected : Byte
  /-- `RESPONSE_FAIL` -/
  responseFail : Byte
  /-- `RESULT_ACCEPTED` -/
  resultAccepted : Byte
  /-- `RESULT_REJECTED` -/
  resultRejected : Byte
  /-- `LEN_SEED_REQUEST` -/
  lenSeedRequest : Byte
  /-- `LEN_SEED_RESPONSE`; read by no rule, since ENCODE computes every reply's length byte (30_encoding.md R88) -/
  lenSeedResponse : Byte
  /-- `LEN_KEY_SUBMIT` -/
  lenKeySubmit : Byte
  /-- `KEY_CONSTANT` -/
  keyConstant : Nat
  /-- `WINDOW_BASE` -/
  windowBase : Nat
  /-- `BANK_BASE(BANK1)` -/
  bankBase1 : Nat
  /-- `BANK_BASE(BANK2)` -/
  bankBase2 : Nat
  /-- `BANK_BASE(BANK3)` -/
  bankBase3 : Nat
  /-- `PATCH_BASE` -/
  patchBase : Nat
  /-- `PATCH_LEN` -/
  patchLen : Nat
  /-- `IDLE_TIMEOUT`, `none` where it is left OPEN; read by no rule, `TIMEOUT` is the host's event (60_exceptions.md R254) -/
  idleTimeout : Option Nat
  /-- the transport row; read by no rule -/
  transport : Transport
  /-- `BANK_CODE` of BANK1 (R9, D25) -/
  bankCode1 : Byte
  /-- `BANK_CODE` of BANK2 -/
  bankCode2 : Byte
  /-- `BANK_CODE` of BANK3 -/
  bankCode3 : Byte
  /-- `IMAGE_SIZE` (R9, D40), `none` where it is left OPEN; compared with by no rule (44_translator.md R221) -/
  imageSize : Option Nat
  /-- the verification-confidence flag of each value (R8): the parameters whose value has been verified -/
  verified : List Parameter
  deriving DecidableEq, Repr

/-- The verification-confidence flag of one parameter (R8). -/
def Profile.isVerified (cfg : Profile) (p : Parameter) : Bool := cfg.verified.contains p

/-- The document's values, "the only values it vouches for"; its "numeric literals are unaudited", so no value carries the
flag (R8). -/
def document : Profile where
  knownIds := [0xF4#8, 0xF7#8, 0xF1#8, 0xF0#8, 0xF9#8]
  lenBias := 85
  maxPayload := 169
  modes := [1#8, 2#8, 3#8, 4#8, 5#8, 6#8, 7#8, 8#8, 9#8, 10#8, 13#8]
  responseRejected := 0xCC#8
  responseFail := 0x55#8
  resultAccepted := 0xAA#8
  resultRejected := 0xCC#8
  lenSeedRequest := 0x57#8
  lenSeedResponse := 0x59#8
  lenKeySubmit := 0x58#8
  keyConstant := 37709
  windowBase := 0x8000
  bankBase1 := 0x00000
  bankBase2 := 0x10000
  bankBase3 := 0x18000
  patchBase := 0x5D00
  patchLen := 0x300
  idleTimeout := none
  transport := { baud := 8192, dataBits := 8, parity := .none, stopBits := 1 }
  bankCode1 := 1#8
  bankCode2 := 2#8
  bankCode3 := 3#8
  imageSize := none
  verified := []

/-- The smallest legal `lengthByte`, LEN_BIAS + 1 (30_encoding.md R81). -/
def Profile.minLength (cfg : Profile) : Nat := cfg.lenBias + 1

/-- A frame can hold a payload of `n` bytes: at most MAX_PAYLOAD, and the one-byte length field can announce it
(90_conflicts.md C1; 41_frame_codec.md R140). With the document's values: `n ≤ 169`. -/
def Profile.fits (cfg : Profile) (n : Nat) : Bool :=
  decide (n ≤ cfg.maxPayload) && decide (cfg.minLength + n ≤ 255)

/-- The mode numbers that have a row of their own in opcode_table.json; the others are answered by `RESERVED_MODE`
whatever `MODES` lists (42_dispatcher.md R161, last row; log 18). -/
def routedModes : List Byte := [1#8, 2#8, 3#8, 4#8, 5#8, 6#8, 7#8, 8#8, 9#8, 10#8, 13#8]

/-- The three banks of R15; the current bank is no state of the block (44_translator.md R220). -/
inductive BankId where
  | bank1 | bank2 | bank3
  deriving DecidableEq, Repr

/-- `BANK_BASE` of a profile. -/
def Profile.bankBase (p : Profile) : BankId → Nat
  | .bank1 => p.bankBase1
  | .bank2 => p.bankBase2
  | .bank3 => p.bankBase3

/-- Free value (log 3): the seed `Draw(16)` yields when the environment has fixed none (43_security.md R194, U1). -/
opaque freeSeed : Nat → Word16

/-- Free value (log 4): what `H_output` does when the environment has fixed nothing (42_dispatcher.md R166, U3). -/
opaque freeStatus : Nat → Machine.OutputAnswer

/-- Free value (log 4): what another handler does when the environment has fixed nothing; its reply may have any length
(42_dispatcher.md R163, U2, U17). -/
opaque freeReply : Nat → Machine.HandlerAnswer

end Config

end Sys2Proof
end

