-- ==== Sys2Proof/Syntax.lean ====
section
/-! DEFINITION. The operations of opcode_table.json, one constructor a row (38 rows). -/

namespace Sys2Proof

/-- One operation of the block with its operands. `dev` is always the `deviceId` byte.
REQ rows carry what a decoded request frame holds (30_encoding.md R85, R87), REPLY rows what a transmitted frame
holds (R88), RX rows the received byte, FN rows the typed operands of the function port (R93), EVT rows nothing. -/
inductive Instr where
  -- REQ: requests, in the table's priority order
  /-- `SEED_REQUEST`, 43_security.md R193, R197 -/
  | seedRequest (dev submode : Byte)
  /-- `KEY_SUBMIT`, R195, R196, R198; `submitted = payload[0]*256 + payload[1]` (30_encoding.md R85 (d)) -/
  | keySubmit (dev : Byte) (submitted : Word16)
  /-- `SEC_MALFORMED`, R199 -/
  | secMalformed (dev : Byte) (payload : List Byte)
  /-- `MODE1_DATASTREAM`, 42_dispatcher.md R165 -/
  | mode1Datastream (dev : Byte) (payload : List Byte)
  /-- `MODE2_FREEZE_FRAME`, R169 -/
  | mode2FreezeFrame (dev : Byte) (payload : List Byte)
  /-- `MODE3_DTC_READ`, R169 -/
  | mode3DtcRead (dev : Byte) (payload : List Byte)
  /-- `MODE4_ACTUATOR_TEST`, R166 -/
  | mode4ActuatorTest (dev : Byte) (payload : List Byte)
  /-- `MODE5_FLASH_ENTRY`, R167 -/
  | mode5FlashEntry (dev : Byte) (payload : List Byte)
  /-- `MODE6_UPLOAD_EXECUTE`, R168 -/
  | mode6UploadExecute (dev : Byte) (payload : List Byte)
  /-- `MODE7_CLEAR_DTC`, R169 -/
  | mode7ClearDtc (dev : Byte) (payload : List Byte)
  /-- `MODE8_DISABLE_CHATTER`, R169 -/
  | mode8DisableChatter (dev : Byte) (payload : List Byte)
  /-- `MODE9_ENABLE_CHATTER`, R169 -/
  | mode9EnableChatter (dev : Byte) (payload : List Byte)
  /-- `MODE10_DIAG_NVRAM`, R169 -/
  | mode10DiagNvram (dev : Byte) (payload : List Byte)
  /-- `RESERVED_MODE`, R170 -/
  | reservedMode (dev mode : Byte) (payload : List Byte)
  -- REPLY: frames the block transmits
  /-- `SEED_RESPONSE`, R193; payload `[submode, seedHi, seedLo]` -/
  | seedResponse (dev submode seedHi seedLo : Byte)
  /-- `KEY_RESULT_ACCEPTED`, R195, R198 -/
  | keyResultAccepted (dev : Byte)
  /-- `KEY_RESULT_REJECTED`, R195, R196 -/
  | keyResultRejected (dev : Byte)
  /-- `RESPONSE_REJECTED`, R164, R197 -/
  | responseRejected (dev mode : Byte)
  /-- `RESPONSE_FAIL`, R166, R170, R199 -/
  | responseFail (dev mode : Byte)
  /-- `MODE4_REPLY`, R166 -/
  | mode4Reply (dev statusByte : Byte)
  /-- `HANDLER_REPLY`, R163 -/
  | handlerReply (dev mode : Byte) (payload : List Byte)
  -- RX: one received byte, by decoder state
  /-- `RX_WAIT_DEVICE`, 41_frame_codec.md R132 -/
  | rxWaitDevice (b : Byte)
  /-- `RX_WAIT_LENGTH`, R133 -/
  | rxWaitLength (b : Byte)
  /-- `RX_WAIT_MODE`, R134 -/
  | rxWaitMode (b : Byte)
  /-- `RX_WAIT_PAYLOAD`, R135 -/
  | rxWaitPayload (b : Byte)
  /-- `RX_WAIT_CHECKSUM`, R137 -/
  | rxWaitChecksum (b : Byte)
  -- FN: function ports
  /-- `CHECKSUM`, 40_checksum.md R120 -/
  | checksum (bytes : List Byte)
  /-- `ENCODE`, 41_frame_codec.md R140 -/
  | encode (dev mode : Byte) (payload : List Byte)
  /-- `COMPUTE_KEY`, 43_security.md R190 -/
  | computeKey (seedHi seedLo : Byte)
  /-- `TRANSLATE`, 44_translator.md R221 -/
  | translate (bankId : Byte) (cpuAddr : Word16)
  /-- `PATCH_CHECK`, R224 -/
  | patchCheck (cpuAddr : Word16) (len : Nat)
  /-- `PATCH_WRITE`, R226 -/
  | patchWrite (bankId : Byte) (cpuAddr : Word16) (data : List Byte)
  -- EVT: asynchronous events
  /-- `POWER_ON`, 60_exceptions.md R250 -/
  | powerOn
  /-- `CONNECT`, R251 -/
  | connect
  /-- `BUS_RESET`, R252 -/
  | busReset
  /-- `DISCONNECT`, R253 -/
  | disconnect
  /-- `TIMEOUT`, R254 -/
  | timeout
  /-- `CANCEL`, R255 -/
  | cancel
  deriving DecidableEq, Repr

end Sys2Proof
end

