-- ==== Sys2Proof/WellFormed.lean ====
section
/-! DEFINITION. Which operand values a table row admits. -/

namespace Sys2Proof

/-- `lengthByte = LEN_BIAS + 1 + len(payload)` (30_encoding.md R81). -/
def lengthByteOf (cfg : Config.Profile) (payload : List Byte) : Byte :=
  BitVec.ofNat 8 (cfg.minLength + payload.length)

/-- What every request row asks of its operands: a known id (R83), a payload a frame can hold (R81), a mode in `MODES`
(R84). -/
def requestOk (cfg : Config.Profile) (dev mode : Byte) (payload : List Byte) : Bool :=
  cfg.knownIds.contains dev && cfg.fits payload.length && cfg.modes.contains mode

/-- The operands are ones the row of opcode_table.json admits: those of `requestOk`; for the mode-13 rows the length byte
that selects the row (R87, 43_security.md R192); for `RESERVED_MODE` a mode that is a gap; a `RESPONSE_REJECTED` frame
answers mode 5, 6 or 13 (opcode_table.json); `PATCH_CHECK` takes `0 ≤ len ≤ 65536` (44_translator.md R224). Replies echo
whatever id the request had, and `ENCODE`, `PATCH_WRITE` take any bytes. -/
def Instr.wf (cfg : Config.Profile) : Instr → Bool
  | .seedRequest dev submode => requestOk cfg dev 13#8 [submode] && lengthByteOf cfg [submode] == cfg.lenSeedRequest
  | .keySubmit dev _ => requestOk cfg dev 13#8 [0#8, 0#8] && lengthByteOf cfg [0#8, 0#8] == cfg.lenKeySubmit &&
      cfg.lenKeySubmit != cfg.lenSeedRequest
  | .secMalformed dev p => requestOk cfg dev 13#8 p && lengthByteOf cfg p != cfg.lenSeedRequest &&
      lengthByteOf cfg p != cfg.lenKeySubmit
  | .mode1Datastream dev p => requestOk cfg dev 1#8 p
  | .mode2FreezeFrame dev p => requestOk cfg dev 2#8 p
  | .mode3DtcRead dev p => requestOk cfg dev 3#8 p
  | .mode4ActuatorTest dev p => requestOk cfg dev 4#8 p
  | .mode5FlashEntry dev p => requestOk cfg dev 5#8 p
  | .mode6UploadExecute dev p => requestOk cfg dev 6#8 p
  | .mode7ClearDtc dev p => requestOk cfg dev 7#8 p
  | .mode8DisableChatter dev p => requestOk cfg dev 8#8 p
  | .mode9EnableChatter dev p => requestOk cfg dev 9#8 p
  | .mode10DiagNvram dev p => requestOk cfg dev 10#8 p
  | .reservedMode dev m p => cfg.knownIds.contains dev && cfg.fits p.length &&
      !(cfg.modes.contains m && Config.routedModes.contains m)
  | .seedResponse _ _ _ _ => true
  | .keyResultAccepted _ => true
  | .keyResultRejected _ => true
  | .responseRejected _ m => [5#8, 6#8, 13#8].contains m
  | .responseFail _ _ => true
  | .mode4Reply _ _ => true
  | .handlerReply _ _ p => cfg.fits p.length
  | .rxWaitDevice _ => true
  | .rxWaitLength _ => true
  | .rxWaitMode _ => true
  | .rxWaitPayload _ => true
  | .rxWaitChecksum _ => true
  | .checksum _ => true
  | .encode _ _ _ => true
  | .computeKey _ _ => true
  | .translate _ _ => true
  | .patchCheck _ len => decide (len ≤ 65536)
  | .patchWrite _ _ _ => true
  | .powerOn => true
  | .connect => true
  | .busReset => true
  | .disconnect => true
  | .timeout => true
  | .cancel => true

end Sys2Proof
end

