-- ==== Sys2Proof/Decode.lean ====
section
/-! DEFINITION. The wire frame: checksum, encoder, the decoder's byte steps, and the map from a decoded request
frame to its operation (30_encoding.md, 40_checksum.md, 41_frame_codec.md). -/

namespace Sys2Proof

/-- `sum(s)` of 00_scope.md R11: the unbounded sum of the bytes. -/
def byteSum : List Byte → Nat
  | [] => 0
  | b :: bs => b.toNat + byteSum bs

/-- `CHECKSUM(bytes) = (256 - (sum(bytes) mod 256)) mod 256` (40_checksum.md R120). -/
def checksum (bytes : List Byte) : Byte :=
  BitVec.ofNat 8 ((256 - byteSum bytes % 256) % 256)

/-- The error kinds of 60_exceptions.md R240. No numeric codes (D32). -/
inductive ErrKind where
  | invalidLength | checksumMismatch | unknownMode | unauthorizedAccess | bankOutOfRange | patchOverflow
  deriving DecidableEq, Repr

/-- A complete frame (00_scope.md R15; 30_encoding.md R80). -/
structure Frame where
  deviceId : Byte
  lengthByte : Byte
  mode : Byte
  payload : List Byte
  checksum : Byte
  deriving DecidableEq, Repr

/-- The bytes of a frame before its checksum, in wire order (30_encoding.md R80). -/
def frameBody (dev len mode : Byte) (payload : List Byte) : List Byte :=
  dev :: len :: mode :: payload

/-- `ENCODE(deviceId, mode, payload)` (41_frame_codec.md R140); `none` is the refusal of a payload no frame can hold. It
checks neither the id nor the mode (D35). -/
def encodeFrame (cfg : Config.Profile) (dev mode : Byte) (payload : List Byte) : Option (List Byte) :=
  if cfg.fits payload.length then
    let body := frameBody dev (lengthByteOf cfg payload) mode payload
    some (body ++ [checksum body])
  else none

/-- The five resting values of `rx_state` (10_state.md R21). -/
inductive RxState where
  | waitDevice | waitLength | waitMode | waitPayload | waitChecksum
  deriving DecidableEq, Repr

/-- The decoder with its latches (10_state.md R21 to R24). A latch stands as an argument exactly in the states where
it is meaningful, so it is absent, not zero, elsewhere (R22, R38; DEDUCED, log 11, safe). `pay` holds the payload
bytes received so far in arrival order: `rx_idx` is its length and `rx_n` is computed from `len` (R23). -/
inductive Decoder where
  | waitDevice
  | waitLength (dev : Byte)
  | waitMode (dev len : Byte)
  | waitPayload (dev len mode : Byte) (pay : List Byte)
  | waitChecksum (dev len mode : Byte) (pay : List Byte)
  deriving DecidableEq, Repr

/-- `rx_state` (R21). -/
def Decoder.state : Decoder → RxState
  | .waitDevice => .waitDevice
  | .waitLength _ => .waitLength
  | .waitMode _ _ => .waitMode
  | .waitPayload _ _ _ _ => .waitPayload
  | .waitChecksum _ _ _ _ => .waitChecksum

/-- `rx_n = rx_len - LEN_BIAS - 1` (R23), the payload bytes a length byte announces. There is no upper check (R133). -/
def announced (cfg : Config.Profile) (len : Byte) : Nat := len.toNat - cfg.minLength

/-- What one received byte does to the decoder: it waits for more, or a frame is complete (`DONE`), or a framing error
ends it (`ERROR`). After the last two the decoder rests in `WAIT_DEVICE` (10_state.md R21, D5). -/
inductive RxOutcome where
  | wait (d : Decoder)
  | done (f : Frame)
  | error (k : ErrKind)
  deriving DecidableEq, Repr

/-- `RX(b)` in `WAIT_DEVICE` (41_frame_codec.md R132). -/
def rxDevice (cfg : Config.Profile) (b : Byte) : Decoder :=
  if cfg.knownIds.contains b then .waitLength b else .waitDevice

/-- `RX(b)` in `WAIT_LENGTH` (R133): `n = b - LEN_BIAS - 1`, refused when negative. -/
def rxLength (cfg : Config.Profile) (dev b : Byte) : RxOutcome :=
  if b.toNat < cfg.minLength then .error .invalidLength else .wait (.waitMode dev b)

/-- `RX(b)` in `WAIT_MODE` (R134); with `rx_n = 0` the payload state is passed through (D7). -/
def rxMode (cfg : Config.Profile) (dev len b : Byte) : Decoder :=
  if announced cfg len = 0 then .waitChecksum dev len b [] else .waitPayload dev len b []

/-- `RX(b)` in `WAIT_PAYLOAD` (R135); the comparison is with the new `rx_idx`. -/
def rxPayload (cfg : Config.Profile) (dev len mode : Byte) (pay : List Byte) (b : Byte) : Decoder :=
  let pay' := pay ++ [b]
  if pay'.length = announced cfg len then .waitChecksum dev len mode pay' else .waitPayload dev len mode pay'

/-- `RX(b)` in `WAIT_CHECKSUM` (R137). -/
def rxChecksum (dev len mode : Byte) (pay : List Byte) (b : Byte) : RxOutcome :=
  if b = checksum (frameBody dev len mode pay) then
    .done { deviceId := dev, lengthByte := len, mode := mode, payload := pay, checksum := b }
  else .error .checksumMismatch

/-- `RX(b)` in any decoder state (R130, R131). -/
def decoderStep (cfg : Config.Profile) (d : Decoder) (b : Byte) : RxOutcome :=
  match d with
  | .waitDevice => .wait (rxDevice cfg b)
  | .waitLength dev => rxLength cfg dev b
  | .waitMode dev len => .wait (rxMode cfg dev len b)
  | .waitPayload dev len mode pay => .wait (rxPayload cfg dev len mode pay b)
  | .waitChecksum dev len mode pay => rxChecksum dev len mode pay b

/-- The decoder after an outcome. -/
def RxOutcome.decoder : RxOutcome → Decoder
  | .wait d => d
  | .done _ => .waitDevice
  | .error _ => .waitDevice

/-- The outcome as `decode` lists it (R139): waiting is no outcome. -/
def RxOutcome.report : RxOutcome → List RxOutcome
  | .wait _ => []
  | .done f => [.done f]
  | .error k => [.error k]

/-- `decode(s)` of 41_frame_codec.md R139: the outcomes in order, and the decoder at the end. -/
def decodeStream (cfg : Config.Profile) : Decoder → List Byte → List RxOutcome × Decoder
  | d, [] => ([], d)
  | d, b :: bs =>
    let o := decoderStep cfg d b
    let r := decodeStream cfg o.decoder bs
    (o.report ++ r.1, r.2)

/-- Why a byte sequence is not read as a frame. -/
inductive Reject where
  /-- no byte of `KNOWN_IDS` stands in it (30_encoding.md R89 (a)) -/
  | noFrame
  /-- it ends inside a frame; the decoder is left in that state (70_reset_and_hazards.md R293) -/
  | truncated (at_ : RxState)
  /-- a framing error (R89 (b), (c)) -/
  | framing (k : ErrKind)
  deriving DecidableEq, Repr

/-- The first frame of a byte sequence, and the bytes after it. Bytes the decoder ignores are skipped (R132). -/
def decodeBytes (cfg : Config.Profile) : Decoder → List Byte → Except Reject (Frame × List Byte)
  | .waitDevice, [] => .error .noFrame
  | d, [] => .error (.truncated d.state)
  | d, b :: bs =>
    match decoderStep cfg d b with
    | .wait d' => decodeBytes cfg d' bs
    | .done f => .ok (f, bs)
    | .error k => .error (.framing k)

/-- The submitted key of two payload bytes, high byte first (30_encoding.md R85 (d), D16). -/
def keyOfBytes (hi lo : Byte) : Word16 := BitVec.ofNat 16 (hi.toNat * 256 + lo.toNat)

/-- The high byte of a 16-bit value. -/
def highByte (w : Word16) : Byte := BitVec.ofNat 8 (w.toNat / 256)

/-- The low byte of a 16-bit value. -/
def lowByte (w : Word16) : Byte := BitVec.ofNat 8 w.toNat

/-- The three mode-13 rows, told apart by `lengthByte` (30_encoding.md R87, 90_conflicts.md C3); `submode = payload[0]`,
`submitted = payload[0]*256 + payload[1]` (R85 (c), (d)). A payload too short to hold these operands makes the frame
malformed (DEDUCED, log 16, safe: with the document's values no decoded frame is one). -/
def decodeSecurity (cfg : Config.Profile) (f : Frame) : Instr :=
  if f.lengthByte = cfg.lenSeedRequest then
    match f.payload with
    | submode :: _ => .seedRequest f.deviceId submode
    | [] => .secMalformed f.deviceId []
  else if f.lengthByte = cfg.lenKeySubmit then
    match f.payload with
    | hi :: lo :: _ => .keySubmit f.deviceId (keyOfBytes hi lo)
    | p => .secMalformed f.deviceId p
  else .secMalformed f.deviceId f.payload

/-- The operation a decoded request frame selects (30_encoding.md R86, R87): a gap of `MODES` selects `RESERVED_MODE`
(42_dispatcher.md R170), any other mode its row, and a mode without a row `RESERVED_MODE` (R161; log 18). -/
def decodeRequest (cfg : Config.Profile) (f : Frame) : Instr :=
  if cfg.modes.contains f.mode then
    match f.mode.toNat with
    | 13 => decodeSecurity cfg f
    | 1 => .mode1Datastream f.deviceId f.payload
    | 2 => .mode2FreezeFrame f.deviceId f.payload
    | 3 => .mode3DtcRead f.deviceId f.payload
    | 4 => .mode4ActuatorTest f.deviceId f.payload
    | 5 => .mode5FlashEntry f.deviceId f.payload
    | 6 => .mode6UploadExecute f.deviceId f.payload
    | 7 => .mode7ClearDtc f.deviceId f.payload
    | 8 => .mode8DisableChatter f.deviceId f.payload
    | 9 => .mode9EnableChatter f.deviceId f.payload
    | 10 => .mode10DiagNvram f.deviceId f.payload
    | _ => .reservedMode f.deviceId f.mode f.payload
  else .reservedMode f.deviceId f.mode f.payload

/-- The operation of the first frame in a byte sequence, and the bytes after it. -/
def decode (cfg : Config.Profile) (bytes : List Byte) : Except Reject (Instr × List Byte) :=
  match decodeBytes cfg .waitDevice bytes with
  | .ok (f, rest) => .ok (decodeRequest cfg f, rest)
  | .error e => .error e

/-- The RX row a received byte selects: the one of the decoder's state (41_frame_codec.md R130). -/
def decodeRx (s : RxState) (b : Byte) : Instr :=
  match s with
  | .waitDevice => .rxWaitDevice b
  | .waitLength => .rxWaitLength b
  | .waitMode => .rxWaitMode b
  | .waitPayload => .rxWaitPayload b
  | .waitChecksum => .rxWaitChecksum b

/-- The bytes of an operation on the wire: a request's or reply's whole frame (30_encoding.md R80, R88), an RX row's one
byte. `none` for a payload no frame holds, and for FN and EVT rows, which have no encoding (R93). -/
def encodeInstr (cfg : Config.Profile) : Instr → Option (List Byte)
  | .seedRequest dev submode => encodeFrame cfg dev 13#8 [submode]
  | .keySubmit dev k => encodeFrame cfg dev 13#8 [highByte k, lowByte k]
  | .secMalformed dev p => encodeFrame cfg dev 13#8 p
  | .mode1Datastream dev p => encodeFrame cfg dev 1#8 p
  | .mode2FreezeFrame dev p => encodeFrame cfg dev 2#8 p
  | .mode3DtcRead dev p => encodeFrame cfg dev 3#8 p
  | .mode4ActuatorTest dev p => encodeFrame cfg dev 4#8 p
  | .mode5FlashEntry dev p => encodeFrame cfg dev 5#8 p
  | .mode6UploadExecute dev p => encodeFrame cfg dev 6#8 p
  | .mode7ClearDtc dev p => encodeFrame cfg dev 7#8 p
  | .mode8DisableChatter dev p => encodeFrame cfg dev 8#8 p
  | .mode9EnableChatter dev p => encodeFrame cfg dev 9#8 p
  | .mode10DiagNvram dev p => encodeFrame cfg dev 10#8 p
  | .reservedMode dev m p => encodeFrame cfg dev m p
  | .seedResponse dev submode hi lo => encodeFrame cfg dev 13#8 [submode, hi, lo]
  | .keyResultAccepted dev => encodeFrame cfg dev 13#8 [cfg.resultAccepted]
  | .keyResultRejected dev => encodeFrame cfg dev 13#8 [cfg.resultRejected]
  | .responseRejected dev m => encodeFrame cfg dev m [cfg.responseRejected]
  | .responseFail dev m => encodeFrame cfg dev m [cfg.responseFail]
  | .mode4Reply dev status => encodeFrame cfg dev 4#8 [status]
  | .handlerReply dev m p => encodeFrame cfg dev m p
  | .rxWaitDevice b => some [b]
  | .rxWaitLength b => some [b]
  | .rxWaitMode b => some [b]
  | .rxWaitPayload b => some [b]
  | .rxWaitChecksum b => some [b]
  | .checksum _ => none
  | .encode _ _ _ => none
  | .computeKey _ _ => none
  | .translate _ _ => none
  | .patchCheck _ _ => none
  | .patchWrite _ _ _ => none
  | .powerOn => none
  | .connect => none
  | .busReset => none
  | .disconnect => none
  | .timeout => none
  | .cancel => none

/-- The mnemonic of an operation in opcode_table.json. -/
def Instr.mnemonic : Instr → String
  | .seedRequest _ _ => "SEED_REQUEST"
  | .keySubmit _ _ => "KEY_SUBMIT"
  | .secMalformed _ _ => "SEC_MALFORMED"
  | .mode1Datastream _ _ => "MODE1_DATASTREAM"
  | .mode2FreezeFrame _ _ => "MODE2_FREEZE_FRAME"
  | .mode3DtcRead _ _ => "MODE3_DTC_READ"
  | .mode4ActuatorTest _ _ => "MODE4_ACTUATOR_TEST"
  | .mode5FlashEntry _ _ => "MODE5_FLASH_ENTRY"
  | .mode6UploadExecute _ _ => "MODE6_UPLOAD_EXECUTE"
  | .mode7ClearDtc _ _ => "MODE7_CLEAR_DTC"
  | .mode8DisableChatter _ _ => "MODE8_DISABLE_CHATTER"
  | .mode9EnableChatter _ _ => "MODE9_ENABLE_CHATTER"
  | .mode10DiagNvram _ _ => "MODE10_DIAG_NVRAM"
  | .reservedMode _ _ _ => "RESERVED_MODE"
  | .seedResponse _ _ _ _ => "SEED_RESPONSE"
  | .keyResultAccepted _ => "KEY_RESULT_ACCEPTED"
  | .keyResultRejected _ => "KEY_RESULT_REJECTED"
  | .responseRejected _ _ => "RESPONSE_REJECTED"
  | .responseFail _ _ => "RESPONSE_FAIL"
  | .mode4Reply _ _ => "MODE4_REPLY"
  | .handlerReply _ _ _ => "HANDLER_REPLY"
  | .rxWaitDevice _ => "RX_WAIT_DEVICE"
  | .rxWaitLength _ => "RX_WAIT_LENGTH"
  | .rxWaitMode _ => "RX_WAIT_MODE"
  | .rxWaitPayload _ => "RX_WAIT_PAYLOAD"
  | .rxWaitChecksum _ => "RX_WAIT_CHECKSUM"
  | .checksum _ => "CHECKSUM"
  | .encode _ _ _ => "ENCODE"
  | .computeKey _ _ => "COMPUTE_KEY"
  | .translate _ _ => "TRANSLATE"
  | .patchCheck _ _ => "PATCH_CHECK"
  | .patchWrite _ _ _ => "PATCH_WRITE"
  | .powerOn => "POWER_ON"
  | .connect => "CONNECT"
  | .busReset => "BUS_RESET"
  | .disconnect => "DISCONNECT"
  | .timeout => "TIMEOUT"
  | .cancel => "CANCEL"

/-- A REQ row of opcode_table.json: it matches when `(H and mask) = pattern` (30_encoding.md R86). -/
structure RequestRow where
  mnemonic : String
  pattern : Nat
  mask : Nat
  deriving DecidableEq, Repr

/-- The REQ rows in priority order, as opcode_table.json prints them. -/
def requestTable : List RequestRow :=
  [⟨"SEED_REQUEST", 0x00570D, 0x00FFFF⟩, ⟨"KEY_SUBMIT", 0x00580D, 0x00FFFF⟩,
   ⟨"SEC_MALFORMED", 0x00000D, 0x0000FF⟩, ⟨"MODE1_DATASTREAM", 0x000001, 0x0000FF⟩,
   ⟨"MODE2_FREEZE_FRAME", 0x000002, 0x0000FF⟩, ⟨"MODE3_DTC_READ", 0x000003, 0x0000FF⟩,
   ⟨"MODE4_ACTUATOR_TEST", 0x000004, 0x0000FF⟩, ⟨"MODE5_FLASH_ENTRY", 0x000005, 0x0000FF⟩,
   ⟨"MODE6_UPLOAD_EXECUTE", 0x000006, 0x0000FF⟩, ⟨"MODE7_CLEAR_DTC", 0x000007, 0x0000FF⟩] ++
  [⟨"MODE8_DISABLE_CHATTER", 0x000008, 0x0000FF⟩, ⟨"MODE9_ENABLE_CHATTER", 0x000009, 0x0000FF⟩,
   ⟨"MODE10_DIAG_NVRAM", 0x00000A, 0x0000FF⟩, ⟨"RESERVED_MODE", 0x000000, 0x000000⟩]

/-- `H = deviceId*65536 + lengthByte*256 + mode` (30_encoding.md R86). -/
def Frame.header (f : Frame) : Nat :=
  f.deviceId.toNat * 65536 + f.lengthByte.toNat * 256 + f.mode.toNat

/-- The first row that matches a header (30_encoding.md R86). -/
def firstRow (h : Nat) : List RequestRow → Option RequestRow
  | [] => none
  | r :: rs => if h &&& r.mask = r.pattern then some r else firstRow h rs

/-- The frame whose header view is `w` (R86): as many zero payload bytes as its length byte announces with the document's
length bias, and the right checksum. DESIGN CHOICE (log 15): any id and any length byte, since R86's match looks at neither; safe. -/
def frameOfHeader (w : Nat) : Frame :=
  let dev := BitVec.ofNat 8 (w / 65536)
  let len := BitVec.ofNat 8 (w / 256)
  let mode := BitVec.ofNat 8 w
  let payload := List.replicate (announced Config.document len) 0#8
  { deviceId := dev, lengthByte := len, mode := mode, payload := payload,
    checksum := checksum (frameBody dev len mode payload) }

/-- What the request decoder reads from the header view `w` of `nbits` bits (R86: bits 7:0 the mode, 15:8 the length
byte, 23:16 the device id; higher bits and the payload are 0). -/
def decodeTableWord (nbits w : Nat) : Option Instr :=
  some (decodeRequest Config.document (frameOfHeader (w % 2 ^ nbits)))

end Sys2Proof
end

