-- ==== Sys2Proof/Machine/State.lean ====
section
/-! DEFINITION. The state of one block instance, its ports rendered as data, and why a step can stop. -/

namespace Sys2Proof
namespace Machine

/-- The SecuritySession (10_state.md R25, R26). The seed stands where it is meaningful, so it is absent, not zero, in
LOCKED (R26, D24; log 12, safe). -/
inductive Session where
  | locked
  | seedIssued (seedHi seedLo : Byte)
  | unlocked (seedHi seedLo : Byte)
  deriving DecidableEq, Repr

/-- The values of `sess_state` (R25); no numeric encoding (D42). -/
inductive SessState where
  | locked | seedIssued | unlocked
  deriving DecidableEq, Repr

/-- The handlers called with a whole request frame (10_state.md R34). -/
inductive Handler where
  /-- `H_telemetry`, mode 1 -/
  | telemetry
  /-- `H_flash_entry`, mode 5 -/
  | flashEntry
  /-- `H_upload`, mode 6 -/
  | upload
  /-- `H_ext(m)`, modes 2, 3, 7, 8, 9, 10 -/
  | ext (m : Byte)
  deriving DecidableEq, Repr

/-- One handler invocation with its arguments (42_dispatcher.md R163, R166). -/
inductive HandlerCall where
  | frame (h : Handler) (dev mode : Byte) (payload : List Byte)
  | output (controlByte : Byte)
  deriving DecidableEq, Repr

/-- The answer of a function port (10_state.md R35). -/
inductive FnResult where
  /-- `CHECKSUM` -/
  | byte (b : Byte)
  /-- `ENCODE` -/
  | bytes (bs : List Byte)
  /-- `COMPUTE_KEY` -/
  | key (k : Word16)
  /-- `TRANSLATE` -/
  | offset (o : Nat)
  /-- `PATCH_CHECK`, `PATCH_WRITE` -/
  | ok
  /-- the request failed -/
  | error (k : ErrKind)
  deriving DecidableEq, Repr

/-- An event of port `evt` (10_state.md R32). -/
inductive Event where
  | powerOn | connect | busReset | disconnect | timeout | cancel
  deriving DecidableEq, Repr

/-- One input event; each is one step (00_scope.md R13). -/
inductive Input where
  | rx (b : Byte)
  | evt (e : Event)
  | fn (r : FnRequest)
  deriving DecidableEq, Repr

/-- Space IMG as the block's own write requests leave it: (file offset, byte), offsets strictly rising. An unlisted
offset holds the external image's own byte, of which the model says nothing (log 9, log 10). -/
abbrev Memory := List Host.Cell

/-- Why the machine stops with a fault. The six error kinds of the spec are none of these: a raise "does not stop the
block" (00_scope.md R12) and is a report on `err`. -/
inductive Fault where
  /-- Raised by the five RX meanings when the decoder is in another state than their row's: the row's latches hold no
  value there, and a model that reads one "should fault, not return zero" (93_implementation_defined.md U5). `step`
  never selects such a row. Safe (log 13). -/
  | decoderNotIn (expected : RxState)
  deriving DecidableEq, Repr

/-- Why the machine has no meaning for an operation. -/
inductive Refusal where
  /-- Raised by an arm of `exec` whose operation has no meaning in this model. No arm does. Safe. -/
  | notModelled (mnemonic : String)
  deriving DecidableEq, Repr

/-- One block instance, with what its environment has prepared and what its ports have carried. -/
structure State where
  /-- the configuration record (00_scope.md R8); no step changes it (10_state.md R37; log 8) -/
  cfg : Config.Profile
  /-- `rx_state`, `rx_dev`, `rx_len`, `rx_mode`, `rx_n`, `rx_idx`, `rx_pay` (R21 to R24) -/
  rx : Decoder
  /-- `sess_state`, `seedHi`, `seedLo` (R25, R26) -/
  sess : Session
  /-- space IMG as the block's write requests leave it (20_memory.md R50 (c); log 9) -/
  image : Memory
  /-- the input events still to come, first one first (R30, R32, R35; log 1) -/
  inbox : List Input
  /-- draws the environment has fixed (43_security.md R194; log 3) -/
  drawIn : List Word16
  /-- what `H_output` will do when called (42_dispatcher.md R166; logs 4, 7) -/
  statusIn : List OutputAnswer
  /-- what the other handlers will do when called (42_dispatcher.md R163; logs 4, 7) -/
  replyIn : List HandlerAnswer
  /-- the model's own: index of the next free value of Config (log 5) -/
  freeIdx : Nat
  /-- port `tx`: the bytes handed to the transport so far (R31; log 6) -/
  tx : List Byte
  /-- port `err`: the error kind of the step just taken (R33) -/
  err : Option ErrKind
  /-- handler ports: the invocations so far (R34; log 6) -/
  calls : List HandlerCall
  /-- port `img`: the byte-write requests so far, in order (R35; log 6) -/
  img : List (Nat × Byte)
  /-- function ports: the answers given in the step just taken, in order (R35; logs 6, 7) -/
  fnOut : List FnResult
  deriving DecidableEq, Repr

/-- Directly after POWER_ON (10_state.md R38), with the document's configuration, nothing to come and nothing yet on
any port. The reset values of the model's own fields are DESIGN CHOICES (log 1, 3 to 6, 10). -/
def State.reset : State where
  cfg := Config.document
  rx := .waitDevice
  sess := .locked
  image := []
  inbox := []
  drawIn := []
  statusIn := []
  replyIn := []
  freeIdx := 0
  tx := []
  err := none
  calls := []
  img := []
  fnOut := []

end Machine
end Sys2Proof
end

