-- ==== Sys2Proof/Machine/Operands.lean ====
section
/-! DEFINITION. Operand values computed from operands, latches and configuration: seeds and keys, banks and file
offsets, the patch window, the function ports' answers (30_encoding.md R85, 43_security.md R190, 44_translator.md). -/

namespace Sys2Proof
namespace Machine

/-- `seed = seedLo*256 + seedHi` (30_encoding.md R85 (e)). -/
def seedNumber (seedHi seedLo : Byte) : Nat := seedLo.toNat * 256 + seedHi.toNat

/-- `COMPUTE_KEY`: `key = (37709 - seed) mod 65536` (43_security.md R190), with the profile's `KEY_CONSTANT`. -/
def keyOf (cfg : Config.Profile) (seedHi seedLo : Byte) : Word16 :=
  BitVec.ofInt 16 ((cfg.keyConstant : Int) - (seedNumber seedHi seedLo : Int))

/-- The bank of a `BANK_CODE` (00_scope.md R9; 30_encoding.md R93, D25); every other value is unrecognised. -/
def bankOfCode (cfg : Config.Profile) (code : Byte) : Option Config.BankId :=
  if code = cfg.bankCode1 then some .bank1
  else if code = cfg.bankCode2 then some .bank2
  else if code = cfg.bankCode3 then some .bank3
  else none

/-- The file offset of a CPU address in a recognised bank (44_translator.md R221); unbounded, no wrap. -/
def fileOffset (cfg : Config.Profile) (bank : Config.BankId) (addr : Nat) : Nat :=
  if addr < cfg.windowBase then addr else cfg.bankBase bank + (addr - cfg.windowBase)

/-- `PATCH_CHECK(cpuAddr, len)` passes (44_translator.md R224); unbounded integers, no wrap. -/
def patchOk (cfg : Config.Profile) (cpuAddr len : Nat) : Bool :=
  decide (cfg.patchBase ≤ cpuAddr) && decide (cpuAddr + len ≤ cfg.patchBase + cfg.patchLen)

/-- The write requests of a `PATCH_WRITE`, in increasing order (44_translator.md R226). -/
def patchRequests (cfg : Config.Profile) (bank : Config.BankId) : Nat → List Byte → List (Nat × Byte)
  | _, [] => []
  | addr, b :: bs => (fileOffset cfg bank addr, b) :: patchRequests cfg bank (addr + 1) bs

/-- `PATCH_WRITE` (44_translator.md R226): window, then bank, then the write requests; a failing request has none. -/
def patchPlan (cfg : Config.Profile) (bankId : Byte) (cpuAddr : Word16) (data : List Byte) :
    Except ErrKind (List (Nat × Byte)) :=
  if patchOk cfg cpuAddr.toNat data.length then
    match bankOfCode cfg bankId with
    | none => .error .bankOutOfRange
    | some bank => .ok (patchRequests cfg bank cpuAddr.toNat data)
  else .error .patchOverflow

/-- The answer of `ENCODE` (41_frame_codec.md R140). -/
def answerEncode (cfg : Config.Profile) (dev mode : Byte) (payload : List Byte) : FnResult :=
  match encodeFrame cfg dev mode payload with
  | some f => .bytes f
  | none => .error .invalidLength

/-- The answer of `TRANSLATE` (44_translator.md R221): the bank is checked before the address is looked at
(60_exceptions.md R257). -/
def answerTranslate (cfg : Config.Profile) (bankId : Byte) (cpuAddr : Word16) : FnResult :=
  match bankOfCode cfg bankId with
  | none => .error .bankOutOfRange
  | some bank => .offset (fileOffset cfg bank cpuAddr.toNat)

/-- The answer of `PATCH_CHECK` (44_translator.md R224). -/
def answerPatchCheck (cfg : Config.Profile) (cpuAddr : Word16) (len : Nat) : FnResult :=
  if patchOk cfg cpuAddr.toNat len then .ok else .error .patchOverflow

/-- The answer of `PATCH_WRITE` (44_translator.md R226). -/
def answerPatchWrite (cfg : Config.Profile) (bankId : Byte) (cpuAddr : Word16) (data : List Byte) : FnResult :=
  match patchPlan cfg bankId cpuAddr data with
  | .ok _ => .ok
  | .error k => .error k

/-- The write requests of `PATCH_WRITE` (44_translator.md R226). -/
def writesOfPatch (cfg : Config.Profile) (bankId : Byte) (cpuAddr : Word16) (data : List Byte) : List (Nat × Byte) :=
  match patchPlan cfg bankId cpuAddr data with
  | .ok writes => writes
  | .error _ => []

/-- The answer of a function port, whoever asks (10_state.md R35). -/
def FnRequest.answer (cfg : Config.Profile) : FnRequest → FnResult
  | .checksum bytes => .byte (Sys2Proof.checksum bytes)
  | .encode dev mode payload => answerEncode cfg dev mode payload
  | .computeKey hi lo => .key (keyOf cfg hi lo)
  | .translate bankId cpuAddr => answerTranslate cfg bankId cpuAddr
  | .patchCheck cpuAddr len => answerPatchCheck cfg cpuAddr len
  | .patchWrite bankId cpuAddr data => answerPatchWrite cfg bankId cpuAddr data

/-- The write requests of a function port: `PATCH_WRITE` alone has any (44_translator.md R225). -/
def FnRequest.writes (cfg : Config.Profile) : FnRequest → List (Nat × Byte)
  | .checksum _ => []
  | .encode _ _ _ => []
  | .computeKey _ _ => []
  | .translate _ _ => []
  | .patchCheck _ _ => []
  | .patchWrite bankId cpuAddr data => writesOfPatch cfg bankId cpuAddr data

/-- The kind a failing request raises. -/
def FnResult.kind : FnResult → Option ErrKind
  | .byte _ => none
  | .bytes _ => none
  | .key _ => none
  | .offset _ => none
  | .ok => none
  | .error k => some k

/-- "the first that fails decides the single kind raised" (60_exceptions.md R257). -/
def firstKind (answers : List FnResult) : Option ErrKind := answers.findSome? FnResult.kind

/-- The answers to requests made one after another. -/
def answersTo (cfg : Config.Profile) (reqs : List FnRequest) : List FnResult := reqs.map (FnRequest.answer cfg)

/-- The write requests of requests made one after another, in order. -/
def writesOf (cfg : Config.Profile) (reqs : List FnRequest) : List (Nat × Byte) := reqs.flatMap (FnRequest.writes cfg)

/-- `rx_state` (10_state.md R21). -/
def State.rxState (s : State) : RxState := s.rx.state

/-- `rx_dev`, where it is meaningful (10_state.md R22). -/
def State.rxDev (s : State) : Option Byte :=
  match s.rx with
  | .waitDevice => none
  | .waitLength dev => some dev
  | .waitMode dev _ => some dev
  | .waitPayload dev _ _ _ => some dev
  | .waitChecksum dev _ _ _ => some dev

/-- `rx_len`, where it is meaningful (R22). -/
def State.rxLen (s : State) : Option Byte :=
  match s.rx with
  | .waitDevice => none
  | .waitLength _ => none
  | .waitMode _ len => some len
  | .waitPayload _ len _ _ => some len
  | .waitChecksum _ len _ _ => some len

/-- `rx_mode`, where it is meaningful (R22). -/
def State.rxMode (s : State) : Option Byte :=
  match s.rx with
  | .waitDevice => none
  | .waitLength _ => none
  | .waitMode _ _ => none
  | .waitPayload _ _ mode _ => some mode
  | .waitChecksum _ _ mode _ => some mode

/-- `rx_n = rx_len - LEN_BIAS - 1`, "meaningful whenever `rx_len` is" (R23). -/
def State.rxN (s : State) : Option Nat := s.rxLen.map (announced s.cfg)

/-- `rx_pay[0..rx_idx)`, where it is meaningful (R24). -/
def State.rxPay (s : State) : Option (List Byte) :=
  match s.rx with
  | .waitDevice => none
  | .waitLength _ => none
  | .waitMode _ _ => none
  | .waitPayload _ _ _ pay => some pay
  | .waitChecksum _ _ _ pay => some pay

/-- `rx_idx`, "the number of payload bytes already stored" (R23). -/
def State.rxIdx (s : State) : Option Nat := s.rxPay.map List.length

/-- `sess_state` (10_state.md R25). -/
def State.sessState (s : State) : SessState :=
  match s.sess with
  | .locked => .locked
  | .seedIssued _ _ => .seedIssued
  | .unlocked _ _ => .unlocked

/-- `seedHi`, where it is meaningful (R26). -/
def State.seedHi (s : State) : Option Byte :=
  match s.sess with
  | .locked => none
  | .seedIssued hi _ => some hi
  | .unlocked hi _ => some hi

/-- `seedLo`, where it is meaningful (R26). -/
def State.seedLo (s : State) : Option Byte :=
  match s.sess with
  | .locked => none
  | .seedIssued _ lo => some lo
  | .unlocked _ lo => some lo

end Machine
end Sys2Proof
end

