-- ==== Sys2Proof/Machine/Ops.lean ====
section
/-! DEFINITION. The named operations over the image, the ports and the registers that the meanings share. There is no
trap entry and no return (60_exceptions.md R258, R259): raising an error kind is a report and nothing else. -/

namespace Sys2Proof
namespace Machine

/-- The byte the block has last requested to be written at an offset; `none` where it has requested none (log 10). -/
def Memory.read : Memory → Nat → Option Byte
  | [], _ => none
  | c :: m, a => if c.1 = a then some c.2 else Memory.read m a

/-- `MemWrite(IMG, off, 1, b)` (00_scope.md R12), keeping the offsets strictly rising. -/
def Memory.write : Memory → Nat → Byte → Memory
  | [], a, b => [(a, b)]
  | c :: m, a, b =>
    if a < c.1 then (a, b) :: c :: m
    else if a = c.1 then (a, b) :: m
    else c :: Memory.write m a b

/-- The canonical form: offsets strictly rising (no listed byte equals the unlisted reading, which is no byte). -/
def Memory.wf : Memory → Bool
  | [] => true
  | [_] => true
  | c :: d :: m => decide (c.1 < d.1) && Memory.wf (d :: m)

/-- A list of write requests, first one first. -/
def Memory.writeAll (m : Memory) : List (Nat × Byte) → Memory
  | [] => m
  | r :: rs => Memory.writeAll (Memory.write m r.1 r.2) rs

/-- `raise K`: put K on port `err` for this step; "it does not stop the block" (00_scope.md R12; 60_exceptions.md
R240, R258). -/
def State.raise (s : State) (k : ErrKind) : State := { s with err := some k }

/-- `Tx(ENCODE(dev, mode, payload))` (30_encoding.md R88). A payload no frame can hold raises `InvalidLength` and nothing is
transmitted (41_frame_codec.md R140, 42_dispatcher.md R163), unless a check of this step has `raised` a kind before: "the
first that fails decides the single kind raised" and "`ENCODE`'s length check comes last" (60_exceptions.md R257). R257 names
that check on a handler's reply; that the order is the same for the block's own replies is DEDUCED (log 19). -/
def State.transmit (s : State) (raised : Option ErrKind) (dev mode : Byte) (payload : List Byte) : State :=
  match encodeFrame s.cfg dev mode payload with
  | some f => { s with tx := s.tx ++ f }
  | none => { s with err := raised.or (some .invalidLength) }

/-- The value the next `Draw(16)` yields (43_security.md R194; log 3): the one the environment has fixed, else free. -/
def State.nextDraw (s : State) : Word16 :=
  match s.drawIn with
  | [] => Config.freeSeed s.freeIdx
  | v :: _ => v

/-- The state once that draw is consumed. -/
def State.afterDraw (s : State) : State :=
  match s.drawIn with
  | [] => { s with freeIdx := s.freeIdx + 1 }
  | _ :: vs => { s with drawIn := vs }

/-- What the next call of `H_output` does (42_dispatcher.md R166; log 4). -/
def State.nextStatus (s : State) : OutputAnswer :=
  match s.statusIn with
  | [] => Config.freeStatus s.freeIdx
  | b :: _ => b

/-- The state once that answer is consumed. -/
def State.afterStatus (s : State) : State :=
  match s.statusIn with
  | [] => { s with freeIdx := s.freeIdx + 1 }
  | _ :: bs => { s with statusIn := bs }

/-- What the next call of another handler does (42_dispatcher.md R163; log 4). -/
def State.nextReply (s : State) : HandlerAnswer :=
  match s.replyIn with
  | [] => Config.freeReply s.freeIdx
  | r :: _ => r

/-- The state once that answer is consumed. -/
def State.afterReply (s : State) : State :=
  match s.replyIn with
  | [] => { s with freeIdx := s.freeIdx + 1 }
  | _ :: rs => { s with replyIn := rs }

/-- A handler invocation appears on the handler ports (10_state.md R34). -/
def State.called (s : State) (c : HandlerCall) : State := { s with calls := s.calls ++ [c] }

/-- Function requests answered one after another inside one step (10_state.md R35), by the host's step or a handler's
call: the answers go back to the caller, write requests go out on port `img` in order and the image view follows them
(log 9), and the first kind raised is the step's (60_exceptions.md R257). -/
def State.served (s : State) (reqs : List FnRequest) : State :=
  { s with
    err := (firstKind (answersTo s.cfg reqs)).or s.err
    fnOut := s.fnOut ++ answersTo s.cfg reqs
    img := s.img ++ writesOf s.cfg reqs
    image := s.image.writeAll (writesOf s.cfg reqs) }

/-- The frame of a handler's reply, if it gives one (42_dispatcher.md R163); `raised` is what the handler's own requests
have raised. -/
def State.replyWith (s : State) (raised : Option ErrKind) (dev mode : Byte) : Option (List Byte) → State
  | none => s
  | some p => s.transmit raised dev mode p

/-- One handler call: it appears on its port, the handler's own function requests are answered before it returns
(10_state.md R34, R35; 44_translator.md R227), and its reply is framed. -/
def State.callHandler (s : State) (c : HandlerCall) (reqs : List FnRequest) (dev mode : Byte)
    (reply : Option (List Byte)) : State :=
  ((s.called c).served reqs).replyWith (firstKind (answersTo s.cfg reqs)) dev mode reply

/-- The handler call convention of 42_dispatcher.md R163. -/
def State.forward (s : State) (h : Handler) (dev mode : Byte) (payload : List Byte) : State :=
  s.afterReply.callHandler (.frame h dev mode payload) s.nextReply.requests dev mode s.nextReply.reply

/-- The callback of mode 4 and its reply (42_dispatcher.md R166). -/
def State.callOutput (s : State) (dev controlByte : Byte) : State :=
  s.afterStatus.callHandler (.output controlByte) s.nextStatus.requests dev 4#8 (some [s.nextStatus.status])

/-- `RESPONSE_REJECTED` to a request of this mode (30_encoding.md R88). -/
def State.sendRejected (s : State) (raised : Option ErrKind) (dev mode : Byte) : State :=
  s.transmit raised dev mode [s.cfg.responseRejected]

/-- `RESPONSE_FAIL` to a request of this mode (30_encoding.md R88). -/
def State.sendFail (s : State) (raised : Option ErrKind) (dev mode : Byte) : State :=
  s.transmit raised dev mode [s.cfg.responseFail]

/-- The answer to an unrecognised request: `raise UnknownMode` and a `RESPONSE_FAIL` reply (42_dispatcher.md R166,
R170; 43_security.md R199). The kind stays `UnknownMode` in a profile whose frames cannot hold that reply (DEDUCED, log 19). -/
def State.unknownMode (s : State) (dev mode : Byte) : State :=
  (s.raise .unknownMode).sendFail (some .unknownMode) dev mode

/-- The gate's refusal: `raise UnauthorizedAccess` and a `RESPONSE_REJECTED` reply, no handler called
(42_dispatcher.md R164). The kind stays `UnauthorizedAccess` in a profile whose frames cannot hold that reply (DEDUCED,
log 19). -/
def State.unauthorized (s : State) (dev mode : Byte) : State :=
  (s.raise .unauthorizedAccess).sendRejected (some .unauthorizedAccess) dev mode

/-- The gate of modes 5 and 6 (42_dispatcher.md R164, R167, R168): only an UNLOCKED session reaches the handler. -/
def State.gated (s : State) (h : Handler) (dev mode : Byte) (payload : List Byte) : State :=
  match s.sess with
  | .locked => s.unauthorized dev mode
  | .seedIssued _ _ => s.unauthorized dev mode
  | .unlocked _ _ => s.forward h dev mode payload

/-- The session is LOCKED and its seed absent (10_state.md R38, TIMEOUT column). -/
def State.lockSession (s : State) : State := { s with sess := .locked }

/-- The decoder is in WAIT_DEVICE and its latches absent (10_state.md R38, CANCEL column). -/
def State.resetDecoder (s : State) : State := { s with rx := .waitDevice }

/-- The POWER_ON, CONNECT, BUS_RESET and DISCONNECT columns of 10_state.md R38. -/
def State.resetBlock (s : State) : State := s.lockSession.resetDecoder

/-- The operation a function request names (30_encoding.md R93). -/
def FnRequest.instr : FnRequest → Instr
  | .checksum bytes => .checksum bytes
  | .encode dev mode payload => .encode dev mode payload
  | .computeKey hi lo => .computeKey hi lo
  | .translate bankId cpuAddr => .translate bankId cpuAddr
  | .patchCheck cpuAddr len => .patchCheck cpuAddr len
  | .patchWrite bankId cpuAddr data => .patchWrite bankId cpuAddr data

/-- The operation an event names. -/
def Event.instr : Event → Instr
  | .powerOn => .powerOn
  | .connect => .connect
  | .busReset => .busReset
  | .disconnect => .disconnect
  | .timeout => .timeout
  | .cancel => .cancel

/-- The operation an input event selects; a byte selects the RX row of the decoder's state (41_frame_codec.md R130). -/
def Input.instr (rx : Decoder) : Input → Instr
  | .rx b => decodeRx rx.state b
  | .evt e => e.instr
  | .fn r => r.instr

/-- The next input event taken from the inbox, with the per-step ports clear ("the next step starts clean",
60_exceptions.md R240). `none` when no input is left: the block is idle (60_exceptions.md R267; log 14). -/
def State.fetch (s : State) : Option (Instr × State) :=
  match s.inbox with
  | [] => none
  | x :: rest => some (x.instr s.rx, { s with inbox := rest, err := none, fnOut := [] })

/-- `s` about to receive the checksum byte of `f`: its latches hold `f` and the byte is the next input (log 2). -/
def State.aboutToComplete (s : State) (f : Frame) : State :=
  { s with rx := .waitChecksum f.deviceId f.lengthByte f.mode f.payload, inbox := .rx f.checksum :: s.inbox }

end Machine
end Sys2Proof
end

