-- ==== Sys2Proof/Machine/Replies.lean ====
section
/-! DEFINITION. REPLY rows: the frames the block transmits (30_encoding.md R88). The meaning of a row is the
transmission of its frame; the requests perform it inside their own step. -/

namespace Sys2Proof
namespace Machine

/-- `SEED_RESPONSE`: payload `[submode, seedHi, seedLo]` (43_security.md R193). -/
def execSeedResponse (dev submode seedHi seedLo : Byte) (s : State) : Host.Outcome State Fault Refusal :=
  .next (s.transmit none dev 13#8 [submode, seedHi, seedLo])

/-- `KEY_RESULT` accepted (43_security.md R195, R198). -/
def execKeyResultAccepted (dev : Byte) (s : State) : Host.Outcome State Fault Refusal :=
  .next (s.transmit none dev 13#8 [s.cfg.resultAccepted])

/-- `KEY_RESULT` rejected (43_security.md R195, R196). -/
def execKeyResultRejected (dev : Byte) (s : State) : Host.Outcome State Fault Refusal :=
  .next (s.transmit none dev 13#8 [s.cfg.resultRejected])

/-- `RESPONSE_REJECTED` (42_dispatcher.md R164; 43_security.md R197). -/
def execResponseRejected (dev mode : Byte) (s : State) : Host.Outcome State Fault Refusal :=
  .next (s.sendRejected none dev mode)

/-- `RESPONSE_FAIL` (42_dispatcher.md R166, R170; 43_security.md R199). -/
def execResponseFail (dev mode : Byte) (s : State) : Host.Outcome State Fault Refusal :=
  .next (s.sendFail none dev mode)

/-- `MODE4_REPLY` (42_dispatcher.md R166); its length byte is 0x57 (90_conflicts.md C2). -/
def execMode4Reply (dev statusByte : Byte) (s : State) : Host.Outcome State Fault Refusal :=
  .next (s.transmit none dev 4#8 [statusByte])

/-- `HANDLER_REPLY` (42_dispatcher.md R163); a payload no frame can hold, with the document's
values more than 169 bytes, raises `InvalidLength` and nothing is sent (D38). -/
def execHandlerReply (dev mode : Byte) (payload : List Byte) (s : State) : Host.Outcome State Fault Refusal :=
  .next (s.transmit none dev mode payload)

end Machine
end Sys2Proof
end

