-- ==== Sys2Proof/Machine/Security.lean ====
section
/-! DEFINITION. The Security Handshake: the three mode-13 requests (43_security.md R192 to R200). -/

namespace Sys2Proof
namespace Machine

/-- A fresh seed is drawn and recorded, `seedHi` its high byte (43_security.md R193, R194). -/
def State.issueSeed (s : State) : State :=
  { s.afterDraw with sess := .seedIssued (highByte s.nextDraw) (lowByte s.nextDraw) }

/-- `SEED_REQUEST`: served in LOCKED and SEED_ISSUED (43_security.md R193), rejected in UNLOCKED with no draw (R197). -/
def execSeedRequest (dev submode : Byte) (s : State) : Host.Outcome State Fault Refusal :=
  match s.sess with
  | .locked => execSeedResponse dev submode (highByte s.nextDraw) (lowByte s.nextDraw) s.issueSeed
  | .seedIssued _ _ => execSeedResponse dev submode (highByte s.nextDraw) (lowByte s.nextDraw) s.issueSeed
  | .unlocked _ _ => execResponseRejected dev 13#8 s

/-- `KEY_SUBMIT`: compared in SEED_ISSUED (43_security.md R195), rejected in LOCKED (R196), answered accepted in UNLOCKED
(R198), the last two without a comparison. -/
def execKeySubmit (dev : Byte) (submitted : Word16) (s : State) : Host.Outcome State Fault Refusal :=
  match s.sess with
  | .locked => execKeyResultRejected dev s
  | .seedIssued hi lo =>
    if submitted = keyOf s.cfg hi lo then execKeyResultAccepted dev { s with sess := .unlocked hi lo }
    else execKeyResultRejected dev s.lockSession
  | .unlocked _ _ => execKeyResultAccepted dev s

/-- `SEC_MALFORMED`: `UnknownMode` and a `RESPONSE_FAIL` reply, in every session state (43_security.md R199). The payload
is ignored. -/
def execSecMalformed (dev : Byte) (_payload : List Byte) (s : State) : Host.Outcome State Fault Refusal :=
  .next (s.unknownMode dev 13#8)

end Machine
end Sys2Proof
end

