-- ==== Sys2Proof/Machine/Modes.lean ====
section
/-! DEFINITION. The Mode Dispatcher's requests and its routing (42_dispatcher.md R160 to R171). -/

namespace Sys2Proof
namespace Machine

/-- `MODE1_DATASTREAM` (42_dispatcher.md R165). -/
def execMode1Datastream (dev : Byte) (payload : List Byte) (s : State) : Host.Outcome State Fault Refusal :=
  .next (s.forward .telemetry dev 1#8 payload)

/-- `MODE2_FREEZE_FRAME` (42_dispatcher.md R169). -/
def execMode2FreezeFrame (dev : Byte) (payload : List Byte) (s : State) : Host.Outcome State Fault Refusal :=
  .next (s.forward (.ext 2#8) dev 2#8 payload)

/-- `MODE3_DTC_READ` (42_dispatcher.md R169). -/
def execMode3DtcRead (dev : Byte) (payload : List Byte) (s : State) : Host.Outcome State Fault Refusal :=
  .next (s.forward (.ext 3#8) dev 3#8 payload)

/-- `MODE4_ACTUATOR_TEST` (42_dispatcher.md R166): the control byte is `payload[0]`, later bytes are ignored, an empty
payload is answered `RESPONSE_FAIL` without a call (D14). -/
def execMode4ActuatorTest (dev : Byte) (payload : List Byte) (s : State) : Host.Outcome State Fault Refusal :=
  match payload with
  | [] => .next (s.unknownMode dev 4#8)
  | controlByte :: _ => .next (s.callOutput dev controlByte)

/-- `MODE5_FLASH_ENTRY` (42_dispatcher.md R167). -/
def execMode5FlashEntry (dev : Byte) (payload : List Byte) (s : State) : Host.Outcome State Fault Refusal :=
  .next (s.gated .flashEntry dev 5#8 payload)

/-- `MODE6_UPLOAD_EXECUTE` (42_dispatcher.md R168). -/
def execMode6UploadExecute (dev : Byte) (payload : List Byte) (s : State) : Host.Outcome State Fault Refusal :=
  .next (s.gated .upload dev 6#8 payload)

/-- `MODE7_CLEAR_DTC` (42_dispatcher.md R169). -/
def execMode7ClearDtc (dev : Byte) (payload : List Byte) (s : State) : Host.Outcome State Fault Refusal :=
  .next (s.forward (.ext 7#8) dev 7#8 payload)

/-- `MODE8_DISABLE_CHATTER` (42_dispatcher.md R169). -/
def execMode8DisableChatter (dev : Byte) (payload : List Byte) (s : State) : Host.Outcome State Fault Refusal :=
  .next (s.forward (.ext 8#8) dev 8#8 payload)

/-- `MODE9_ENABLE_CHATTER` (42_dispatcher.md R169). -/
def execMode9EnableChatter (dev : Byte) (payload : List Byte) (s : State) : Host.Outcome State Fault Refusal :=
  .next (s.forward (.ext 9#8) dev 9#8 payload)

/-- `MODE10_DIAG_NVRAM` (42_dispatcher.md R169). -/
def execMode10DiagNvram (dev : Byte) (payload : List Byte) (s : State) : Host.Outcome State Fault Refusal :=
  .next (s.forward (.ext 10#8) dev 10#8 payload)

/-- `RESERVED_MODE` (42_dispatcher.md R170): the payload is ignored. -/
def execReservedMode (dev mode : Byte) (_payload : List Byte) (s : State) : Host.Outcome State Fault Refusal :=
  .next (s.unknownMode dev mode)

/-- `Security(F)`: the sub-request by header length (43_security.md R192); the first matching line. A payload too short to
hold the sub-request's operands is malformed (log 16). -/
def security (f : Frame) (s : State) : Host.Outcome State Fault Refusal :=
  if f.lengthByte = s.cfg.lenSeedRequest then
    match f.payload with
    | submode :: _ => execSeedRequest f.deviceId submode s
    | [] => execSecMalformed f.deviceId [] s
  else if f.lengthByte = s.cfg.lenKeySubmit then
    match f.payload with
    | hi :: lo :: _ => execKeySubmit f.deviceId (keyOfBytes hi lo) s
    | p => execSecMalformed f.deviceId p s
  else execSecMalformed f.deviceId f.payload s

/-- `Dispatch(F)` (42_dispatcher.md R160, R161): the routing table; a mode that is not in `MODES` is reserved (R170), as is
one without a row (log 18). -/
def dispatch (f : Frame) (s : State) : Host.Outcome State Fault Refusal :=
  if s.cfg.modes.contains f.mode then
    match f.mode.toNat with
    | 13 => security f s
    | 5 => execMode5FlashEntry f.deviceId f.payload s
    | 6 => execMode6UploadExecute f.deviceId f.payload s
    | 4 => execMode4ActuatorTest f.deviceId f.payload s
    | 1 => execMode1Datastream f.deviceId f.payload s
    | 2 => execMode2FreezeFrame f.deviceId f.payload s
    | 3 => execMode3DtcRead f.deviceId f.payload s
    | 7 => execMode7ClearDtc f.deviceId f.payload s
    | 8 => execMode8DisableChatter f.deviceId f.payload s
    | 9 => execMode9EnableChatter f.deviceId f.payload s
    | 10 => execMode10DiagNvram f.deviceId f.payload s
    | _ => execReservedMode f.deviceId f.mode f.payload s
  else execReservedMode f.deviceId f.mode f.payload s

end Machine
end Sys2Proof
end

