-- ==== Sys2Proof/Machine/Codec.lean ====
section
/-! DEFINITION. RX rows: one received byte in each decoder state (41_frame_codec.md R130 to R138). Each row is defined in
its own decoder state only; elsewhere its latches hold no value and it faults (log 13). -/

namespace Sys2Proof
namespace Machine

/-- What a received byte's outcome does to the block: the decoder moves on, a framing error is reported and the frame
dropped (R138), or the frame is dispatched with the decoder already back in WAIT_DEVICE (R137). -/
def State.received (s : State) : RxOutcome → Host.Outcome State Fault Refusal
  | .wait d => .next { s with rx := d }
  | .error k => .next (s.resetDecoder.raise k)
  | .done f => dispatch f s.resetDecoder

/-- `RX_WAIT_DEVICE` (41_frame_codec.md R132). -/
def execRxWaitDevice (b : Byte) (s : State) : Host.Outcome State Fault Refusal :=
  match s.rx with
  | .waitDevice => s.received (.wait (rxDevice s.cfg b))
  | .waitLength _ => .fault (.decoderNotIn .waitDevice)
  | .waitMode _ _ => .fault (.decoderNotIn .waitDevice)
  | .waitPayload _ _ _ _ => .fault (.decoderNotIn .waitDevice)
  | .waitChecksum _ _ _ _ => .fault (.decoderNotIn .waitDevice)

/-- `RX_WAIT_LENGTH` (41_frame_codec.md R133). -/
def execRxWaitLength (b : Byte) (s : State) : Host.Outcome State Fault Refusal :=
  match s.rx with
  | .waitDevice => .fault (.decoderNotIn .waitLength)
  | .waitLength dev => s.received (rxLength s.cfg dev b)
  | .waitMode _ _ => .fault (.decoderNotIn .waitLength)
  | .waitPayload _ _ _ _ => .fault (.decoderNotIn .waitLength)
  | .waitChecksum _ _ _ _ => .fault (.decoderNotIn .waitLength)

/-- `RX_WAIT_MODE` (41_frame_codec.md R134). -/
def execRxWaitMode (b : Byte) (s : State) : Host.Outcome State Fault Refusal :=
  match s.rx with
  | .waitDevice => .fault (.decoderNotIn .waitMode)
  | .waitLength _ => .fault (.decoderNotIn .waitMode)
  | .waitMode dev len => s.received (.wait (rxMode s.cfg dev len b))
  | .waitPayload _ _ _ _ => .fault (.decoderNotIn .waitMode)
  | .waitChecksum _ _ _ _ => .fault (.decoderNotIn .waitMode)

/-- `RX_WAIT_PAYLOAD` (41_frame_codec.md R135). -/
def execRxWaitPayload (b : Byte) (s : State) : Host.Outcome State Fault Refusal :=
  match s.rx with
  | .waitDevice => .fault (.decoderNotIn .waitPayload)
  | .waitLength _ => .fault (.decoderNotIn .waitPayload)
  | .waitMode _ _ => .fault (.decoderNotIn .waitPayload)
  | .waitPayload dev len mode pay => s.received (.wait (rxPayload s.cfg dev len mode pay b))
  | .waitChecksum _ _ _ _ => .fault (.decoderNotIn .waitPayload)

/-- `RX_WAIT_CHECKSUM` (41_frame_codec.md R137). -/
def execRxWaitChecksum (b : Byte) (s : State) : Host.Outcome State Fault Refusal :=
  match s.rx with
  | .waitDevice => .fault (.decoderNotIn .waitChecksum)
  | .waitLength _ => .fault (.decoderNotIn .waitChecksum)
  | .waitMode _ _ => .fault (.decoderNotIn .waitChecksum)
  | .waitPayload _ _ _ _ => .fault (.decoderNotIn .waitChecksum)
  | .waitChecksum dev len mode pay => s.received (rxChecksum dev len mode pay b)

end Machine
end Sys2Proof
end

