-- ==== Sys2Proof/Machine/Events.lean ====
section
/-! DEFINITION. EVT rows: the asynchronous events (60_exceptions.md R250 to R255; columns of 10_state.md R38). None
transmits anything and none raises an error kind. -/

namespace Sys2Proof
namespace Machine

/-- `POWER_ON` (60_exceptions.md R250). -/
def execPowerOn (s : State) : Host.Outcome State Fault Refusal := .next s.resetBlock

/-- `CONNECT` (60_exceptions.md R251). -/
def execConnect (s : State) : Host.Outcome State Fault Refusal := .next s.resetBlock

/-- `BUS_RESET` (60_exceptions.md R252). -/
def execBusReset (s : State) : Host.Outcome State Fault Refusal := .next s.resetBlock

/-- `DISCONNECT` (60_exceptions.md R253). -/
def execDisconnect (s : State) : Host.Outcome State Fault Refusal := .next s.resetBlock

/-- `TIMEOUT` (60_exceptions.md R254): the decoder is not touched. -/
def execTimeout (s : State) : Host.Outcome State Fault Refusal := .next s.lockSession

/-- `CANCEL` (60_exceptions.md R255): the session is not touched. -/
def execCancel (s : State) : Host.Outcome State Fault Refusal := .next s.resetDecoder

end Machine
end Sys2Proof
end

