-- ==== Sys2Proof/Machine/Functions.lean ====
section
/-! DEFINITION. FN rows: the function ports asked by the host. None touches the decoder or the session (10_state.md R35);
all but `PATCH_WRITE` are pure (20_memory.md R58). -/

namespace Sys2Proof
namespace Machine

/-- `CHECKSUM` (40_checksum.md R120). -/
def execChecksum (bytes : List Byte) (s : State) : Host.Outcome State Fault Refusal :=
  .next (s.served [.checksum bytes])

/-- `ENCODE` (41_frame_codec.md R140). -/
def execEncode (dev mode : Byte) (payload : List Byte) (s : State) : Host.Outcome State Fault Refusal :=
  .next (s.served [.encode dev mode payload])

/-- `COMPUTE_KEY` (43_security.md R190). -/
def execComputeKey (seedHi seedLo : Byte) (s : State) : Host.Outcome State Fault Refusal :=
  .next (s.served [.computeKey seedHi seedLo])

/-- `TRANSLATE` (44_translator.md R221). -/
def execTranslate (bankId : Byte) (cpuAddr : Word16) (s : State) : Host.Outcome State Fault Refusal :=
  .next (s.served [.translate bankId cpuAddr])

/-- `PATCH_CHECK` (44_translator.md R224). -/
def execPatchCheck (cpuAddr : Word16) (len : Nat) (s : State) : Host.Outcome State Fault Refusal :=
  .next (s.served [.patchCheck cpuAddr len])

/-- `PATCH_WRITE` (44_translator.md R226). -/
def execPatchWrite (bankId : Byte) (cpuAddr : Word16) (data : List Byte) (s : State) :
    Host.Outcome State Fault Refusal :=
  .next (s.served [.patchWrite bankId cpuAddr data])

end Machine
end Sys2Proof
end

