-- ==== Sys2Proof/Machine/Dispatch.lean ====
section
/-! DEFINITION. The meaning of every operation of opcode_table.json, one arm a row. -/

namespace Sys2Proof
namespace Machine

def exec (i : Instr) (s : State) : Host.Outcome State Fault Refusal :=
  match i with
  | .seedRequest dev submode => Sys2Proof.Machine.execSeedRequest dev submode s
  | .keySubmit dev submitted => Sys2Proof.Machine.execKeySubmit dev submitted s
  | .secMalformed dev payload => Sys2Proof.Machine.execSecMalformed dev payload s
  | .mode1Datastream dev payload => Sys2Proof.Machine.execMode1Datastream dev payload s
  | .mode2FreezeFrame dev payload => Sys2Proof.Machine.execMode2FreezeFrame dev payload s
  | .mode3DtcRead dev payload => Sys2Proof.Machine.execMode3DtcRead dev payload s
  | .mode4ActuatorTest dev payload => Sys2Proof.Machine.execMode4ActuatorTest dev payload s
  | .mode5FlashEntry dev payload => Sys2Proof.Machine.execMode5FlashEntry dev payload s
  | .mode6UploadExecute dev payload => Sys2Proof.Machine.execMode6UploadExecute dev payload s
  | .mode7ClearDtc dev payload => Sys2Proof.Machine.execMode7ClearDtc dev payload s
  | .mode8DisableChatter dev payload => Sys2Proof.Machine.execMode8DisableChatter dev payload s
  | .mode9EnableChatter dev payload => Sys2Proof.Machine.execMode9EnableChatter dev payload s
  | .mode10DiagNvram dev payload => Sys2Proof.Machine.execMode10DiagNvram dev payload s
  | .reservedMode dev mode payload => Sys2Proof.Machine.execReservedMode dev mode payload s
  | .seedResponse dev submode seedHi seedLo => Sys2Proof.Machine.execSeedResponse dev submode seedHi seedLo s
  | .keyResultAccepted dev => Sys2Proof.Machine.execKeyResultAccepted dev s
  | .keyResultRejected dev => Sys2Proof.Machine.execKeyResultRejected dev s
  | .responseRejected dev mode => Sys2Proof.Machine.execResponseRejected dev mode s
  | .responseFail dev mode => Sys2Proof.Machine.execResponseFail dev mode s
  | .mode4Reply dev statusByte => Sys2Proof.Machine.execMode4Reply dev statusByte s
  | .handlerReply dev mode payload => Sys2Proof.Machine.execHandlerReply dev mode payload s
  | .rxWaitDevice b => Sys2Proof.Machine.execRxWaitDevice b s
  | .rxWaitLength b => Sys2Proof.Machine.execRxWaitLength b s
  | .rxWaitMode b => Sys2Proof.Machine.execRxWaitMode b s
  | .rxWaitPayload b => Sys2Proof.Machine.execRxWaitPayload b s
  | .rxWaitChecksum b => Sys2Proof.Machine.execRxWaitChecksum b s
  | .checksum bytes => Sys2Proof.Machine.execChecksum bytes s
  | .encode dev mode payload => Sys2Proof.Machine.execEncode dev mode payload s
  | .computeKey seedHi seedLo => Sys2Proof.Machine.execComputeKey seedHi seedLo s
  | .translate bankId cpuAddr => Sys2Proof.Machine.execTranslate bankId cpuAddr s
  | .patchCheck cpuAddr len => Sys2Proof.Machine.execPatchCheck cpuAddr len s
  | .patchWrite bankId cpuAddr data => Sys2Proof.Machine.execPatchWrite bankId cpuAddr data s
  | .powerOn => Sys2Proof.Machine.execPowerOn s
  | .connect => Sys2Proof.Machine.execConnect s
  | .busReset => Sys2Proof.Machine.execBusReset s
  | .disconnect => Sys2Proof.Machine.execDisconnect s
  | .timeout => Sys2Proof.Machine.execTimeout s
  | .cancel => Sys2Proof.Machine.execCancel s

end Machine
end Sys2Proof
end

