-- ==== Sys2Proof/Machine/Step.lean ====
section
/-! DEFINITION. One step of the block (00_scope.md R13), and placing a request as the next thing a step runs. -/

namespace Sys2Proof
namespace Machine

/-- One step: the complete reaction to the next input event. With no input left the block is idle and keeps all its
state (60_exceptions.md R267, 70_reset_and_hazards.md R285; log 14). -/
def step (s : State) : Host.Outcome State Fault Refusal :=
  match s.fetch with
  | none => .next s
  | some (i, s') => exec i s'

/-- The request whose header view is `w` (30_encoding.md R86) is one checksum byte away from complete, so that the very
next step delivers and dispatches it. There is no program: a request comes to run by its bytes arriving (log 2). -/
def State.withFetchWord (s : State) (nbits w : Nat) : State :=
  s.aboutToComplete (frameOfHeader (w % 2 ^ nbits))

end Machine
end Sys2Proof
end

