-- ==== Sys2Proof/Safety.lean ====
section
/-! DEFINITION. The terms claims are stated in: the invariant of 10_state.md R39, what a frame on the wire is
(30_encoding.md R80 to R82), what a handler call may do (42_dispatcher.md R163), and which handlers are privileged. -/

namespace Sys2Proof
namespace Machine

/-- The latches are consistent (10_state.md R39 (b) to (d), R23); with the document's configuration `cfg.lenBias` is 85. -/
def DecoderOk (cfg : Config.Profile) : Decoder → Prop
  | .waitDevice => True
  | .waitLength dev => dev ∈ cfg.knownIds
  | .waitMode dev len => dev ∈ cfg.knownIds ∧ cfg.lenBias + 1 ≤ len.toNat
  | .waitPayload dev len _ pay =>
    dev ∈ cfg.knownIds ∧ cfg.lenBias + 1 ≤ len.toNat ∧ pay.length < len.toNat - (cfg.lenBias + 1)
  | .waitChecksum dev len _ pay =>
    dev ∈ cfg.knownIds ∧ cfg.lenBias + 1 ≤ len.toNat ∧ pay.length = len.toNat - (cfg.lenBias + 1)

/-- What holds after POWER_ON and after every step: the latches are consistent (10_state.md R39) and the image view is
in canonical form (the model's own, log 10). -/
def Invariant (s : State) : Prop :=
  DecoderOk s.cfg s.rx ∧ Memory.wf s.image = true

/-- `f` is the frame of this id, mode and payload: id, length byte LEN_BIAS + 1 + n, mode, payload, and a checksum byte
that makes all bytes sum to 0 modulo 256 (30_encoding.md R80 to R82). Written without the model's encoder. -/
def IsFrame (cfg : Config.Profile) (dev mode : Byte) (payload f : List Byte) : Prop :=
  payload.length ≤ cfg.maxPayload ∧ cfg.lenBias + 1 + payload.length ≤ 255 ∧
  ∃ c : Byte, f = [dev, BitVec.ofNat 8 (cfg.lenBias + 1 + payload.length), mode] ++ payload ++ [c] ∧
    byteSum f % 256 = 0

/-- `s` with one frame more on port `tx`. -/
def Transmits (s : State) (dev mode : Byte) (payload : List Byte)
    (o : Host.Outcome State Fault Refusal) : Prop :=
  ∃ f, IsFrame s.cfg dev mode payload f ∧ o = .next { s with tx := s.tx ++ f }

/-- `t` is `s` once a handler has been called and the function requests it made are answered (10_state.md R34, R35): the
call, the answers and the write requests appear, the image view follows the writes (log 9), and the first failing request
decides `err` (60_exceptions.md R257). -/
def Called (s : State) (c : HandlerCall) (reqs : List FnRequest) (t : State) : Prop :=
  t = { s with
    calls := s.calls ++ [c]
    fnOut := s.fnOut ++ reqs.map (FnRequest.answer s.cfg)
    img := s.img ++ reqs.flatMap (FnRequest.writes s.cfg)
    image := s.image.writeAll (reqs.flatMap (FnRequest.writes s.cfg))
    err := ((reqs.map (FnRequest.answer s.cfg)).findSome? FnResult.kind).or s.err }

/-- The outcome of calling a handler with a whole request frame (42_dispatcher.md R163): the environment's answer is
consumed, the call and the handler's own requests take effect, and a reply payload is framed with the request's id and
mode, or refused when no frame can hold it. Nothing else changes (`idx`: the model's own counter of free values, log 5). -/
def Forwards (h : Handler) (dev mode : Byte) (payload : List Byte) (s : State)
    (o : Host.Outcome State Fault Refusal) : Prop :=
  ∃ idx, ∃ t : State,
    Called { s with replyIn := s.replyIn.tail, freeIdx := idx } (.frame h dev mode payload) s.nextReply.requests t ∧
    (∃ u, o = .next u) ∧
    (s.nextReply.reply = none → o = .next t) ∧
    (∀ p, s.nextReply.reply = some p → s.cfg.fits p.length = true → Transmits t dev mode p o) ∧
    (∀ p, s.nextReply.reply = some p → s.cfg.fits p.length = false →
      o = .next { t with err :=
        ((s.nextReply.requests.map (FnRequest.answer s.cfg)).findSome? FnResult.kind).or (some .invalidLength) })

/-- Handlers behind the gate of modes 5 and 6 (42_dispatcher.md R164). -/
def HandlerCall.privileged : HandlerCall → Bool
  | .frame .flashEntry _ _ _ => true
  | .frame .upload _ _ _ => true
  | .frame .telemetry _ _ _ => false
  | .frame (.ext _) _ _ _ => false
  | .output _ => false

/-- Events that reset the session (60_exceptions.md R250 to R254). -/
def Event.resetsSession : Event → Bool
  | .powerOn => true
  | .connect => true
  | .busReset => true
  | .disconnect => true
  | .timeout => true
  | .cancel => false

/-- `s` when a step has taken its first input event and `rest` remains: the per-step ports are clear. -/
def State.begun (s : State) (rest : List Input) : State :=
  { s with inbox := rest, err := none, fnOut := [] }

end Machine
end Sys2Proof
end

