-- ==== Sys2Proof/Certificates/Slice0/Obligations.lean ====
section
/-! DEFINITION. The statements for the provers. Bases and citations stand in OBLIGATIONS.json. Where a docstring names a
decision D<n>, the clause is the spec's own choice (92_eei_decisions.md), not the source document's. -/

open Sys2Proof Sys2Proof.Machine

/-! ### Reset, steps, decoding -/

/-- 10_state.md R38 with decision D22, and log 8: reset is the POWER_ON column with the document's configuration, and
POWER_ON puts any state there without touching configuration, image, ports or inputs. -/
def Obligations.PowerOnLeavesTheResetColumn : Prop :=
  State.reset.rxState = .waitDevice ∧ State.reset.sessState = .locked ∧ State.reset.cfg = Config.document ∧
  ∀ s : State, ∃ t, exec .powerOn s = .next t ∧
    t = { s with rx := State.reset.rx, sess := State.reset.sess } ∧
    t.rxDev = none ∧ t.rxLen = none ∧ t.rxMode = none ∧ t.rxN = none ∧ t.rxIdx = none ∧ t.rxPay = none ∧
    t.seedHi = none ∧ t.seedLo = none

/-- 00_scope.md R13, 41_frame_codec.md R130, and log 14: a step is the operation its input event selects, run on the
state with that event taken and the per-step ports clear; with no event it is idle. -/
def Obligations.StepRunsTheSelectedOperation : Prop :=
  (∀ s, s.inbox = [] → step s = .next s) ∧
  (∀ s b rest, s.inbox = .rx b :: rest → s.rxState = .waitDevice → step s = exec (.rxWaitDevice b) (s.begun rest)) ∧
  (∀ s b rest, s.inbox = .rx b :: rest → s.rxState = .waitLength → step s = exec (.rxWaitLength b) (s.begun rest)) ∧
  (∀ s b rest, s.inbox = .rx b :: rest → s.rxState = .waitMode → step s = exec (.rxWaitMode b) (s.begun rest)) ∧
  (∀ s b rest, s.inbox = .rx b :: rest → s.rxState = .waitPayload → step s = exec (.rxWaitPayload b) (s.begun rest)) ∧
  (∀ s b rest, s.inbox = .rx b :: rest → s.rxState = .waitChecksum →
    step s = exec (.rxWaitChecksum b) (s.begun rest)) ∧
  (∀ s e rest, s.inbox = .evt e :: rest → step s = exec e.instr (s.begun rest)) ∧
  (∀ s r rest, s.inbox = .fn r :: rest → step s = exec r.instr (s.begun rest))

/-- 41_frame_codec.md R130, 42_dispatcher.md R160, 60_exceptions.md R259: from every state, reachable or not, a step
answers a next state; the block never halts and always takes the next event. -/
def Obligations.EveryStepAnswersANextState : Prop :=
  ∀ s : State, ∃ t, step s = .next t

/-- 93_implementation_defined.md U5 and log 13 (the model's choice): an RX row run while the decoder is in another
state, where its latches hold no value, stops with a fault that names the row's state. -/
def Obligations.RxRowFaultsOutsideItsState : Prop :=
  ∀ (s : State) (b : Byte),
    (s.rxState ≠ .waitDevice → exec (.rxWaitDevice b) s = .fault (.decoderNotIn .waitDevice)) ∧
    (s.rxState ≠ .waitLength → exec (.rxWaitLength b) s = .fault (.decoderNotIn .waitLength)) ∧
    (s.rxState ≠ .waitMode → exec (.rxWaitMode b) s = .fault (.decoderNotIn .waitMode)) ∧
    (s.rxState ≠ .waitPayload → exec (.rxWaitPayload b) s = .fault (.decoderNotIn .waitPayload)) ∧
    (s.rxState ≠ .waitChecksum → exec (.rxWaitChecksum b) s = .fault (.decoderNotIn .waitChecksum))

/-- Frames of 95_test_vectors.md, byte by byte: what each decodes to. -/
def Obligations.SampleFramesDecode : Prop :=
  decode Config.document [0xF4#8, 0x57#8, 0x0D#8, 0x01#8, 0xA7#8] = .ok (.seedRequest 0xF4#8 0x01#8, []) ∧
  decode Config.document [0xF4#8, 0x58#8, 0x0D#8, 0x5F#8, 0x3B#8, 0x0D#8] = .ok (.keySubmit 0xF4#8 0x5F3B#16, []) ∧
  decode Config.document [0xF4#8, 0x56#8, 0x0D#8, 0xA9#8] = .ok (.secMalformed 0xF4#8 [], []) ∧
  decode Config.document [0xF4#8, 0x58#8, 0x06#8, 0xDE#8, 0xAD#8, 0x23#8] =
    .ok (.mode6UploadExecute 0xF4#8 [0xDE#8, 0xAD#8], []) ∧
  decode Config.document [0xF7#8, 0x56#8, 0x0B#8, 0xA8#8] = .ok (.reservedMode 0xF7#8 0x0B#8 [], []) ∧
  decode Config.document [0xF4#8, 0x10#8, 0x04#8] = .error (.framing .invalidLength) ∧
  decode Config.document [0xF4#8, 0x56#8, 0x05#8, 0xB0#8] = .error (.framing .checksumMismatch) ∧
  decode Config.document [0xF4#8, 0x58#8, 0x06#8] = .error (.truncated .waitPayload)

/-- 30_encoding.md section 2 (the header view, decision D34): for every frame whose payload has the announced length,
the first row of opcode_table.json whose mask and match fit the header is the row the decoder selects. -/
def Obligations.DecoderSelectsTheFirstMatchingRow : Prop :=
  ∀ f : Frame, f.payload.length ≤ 169 → f.lengthByte = BitVec.ofNat 8 (86 + f.payload.length) →
    ∃ r, firstRow f.header requestTable = some r ∧ r.mnemonic = (decodeRequest Config.document f).mnemonic

/-- 30_encoding.md R80 to R87, 41_frame_codec.md R139: for every well-formed request, the decoder reads the request back
from its encoding, with every operand, whatever bytes follow. -/
def Obligations.EveryRequestDecodesFromItsEncoding : Prop :=
  ∀ (cfg : Config.Profile) (i : Instr) (rest : List Byte), i.wf cfg = true →
    (match i with
      | .seedRequest _ _ | .keySubmit _ _ | .secMalformed _ _ | .mode1Datastream _ _ | .mode2FreezeFrame _ _
      | .mode3DtcRead _ _ | .mode4ActuatorTest _ _ | .mode5FlashEntry _ _ | .mode6UploadExecute _ _
      | .mode7ClearDtc _ _ | .mode8DisableChatter _ _ | .mode9EnableChatter _ _ | .mode10DiagNvram _ _
      | .reservedMode _ _ _ => ∃ bytes, encodeInstr cfg i = some bytes ∧ decode cfg (bytes ++ rest) = .ok (i, rest)
      | _ => True)

/-- 30_encoding.md R88, opcode_table.json "encoding": the frame of a reply row determines its operands: the same bytes come
from the same operands. -/
def Obligations.ReplyFramesKeepEveryField : Prop :=
  ∀ (cfg : Config.Profile) (f : List Byte),
    (∀ d s h l d' s' h' l', encodeInstr cfg (.seedResponse d s h l) = some f →
      encodeInstr cfg (.seedResponse d' s' h' l') = some f → d = d' ∧ s = s' ∧ h = h' ∧ l = l') ∧
    (∀ d d', encodeInstr cfg (.keyResultAccepted d) = some f → encodeInstr cfg (.keyResultAccepted d') = some f →
      d = d') ∧
    (∀ d d', encodeInstr cfg (.keyResultRejected d) = some f → encodeInstr cfg (.keyResultRejected d') = some f →
      d = d') ∧
    (∀ d m d' m', encodeInstr cfg (.responseRejected d m) = some f →
      encodeInstr cfg (.responseRejected d' m') = some f → d = d' ∧ m = m') ∧
    (∀ d m d' m', encodeInstr cfg (.responseFail d m) = some f → encodeInstr cfg (.responseFail d' m') = some f →
      d = d' ∧ m = m') ∧
    (∀ d s d' s', encodeInstr cfg (.mode4Reply d s) = some f → encodeInstr cfg (.mode4Reply d' s') = some f →
      d = d' ∧ s = s') ∧
    (∀ d m p d' m' p', encodeInstr cfg (.handlerReply d m p) = some f →
      encodeInstr cfg (.handlerReply d' m' p') = some f → d = d' ∧ m = m' ∧ p = p')

/-- 41_frame_codec.md R139 (the round-trip property with the bound of 90_conflicts.md C1): feeding an encoded frame to a
resting decoder gives the single outcome DONE with that id, mode and payload, and a resting decoder. -/
def Obligations.DecodingAnEncodedFrameDeliversIt : Prop :=
  ∀ (cfg : Config.Profile) (dev mode : Byte) (payload f : List Byte), dev ∈ cfg.knownIds →
    IsFrame cfg dev mode payload f →
    ∃ c, decodeStream cfg .waitDevice f =
      ([.done { deviceId := dev, lengthByte := BitVec.ofNat 8 (cfg.lenBias + 1 + payload.length), mode := mode,
                payload := payload, checksum := c }], .waitDevice)

/-- 41_frame_codec.md R137, R139, 42_dispatcher.md R160: when the next bytes on `rx` are an encoded frame of a known id
and the decoder rests, stepping through them runs exactly the request the frame encodes, on the state with those bytes
consumed. -/
def Obligations.ReceivingAFrameRunsItsRequest : Prop :=
  ∀ (s : State) (dev mode : Byte) (payload f : List Byte) (rest : List Input),
    s.rx = .waitDevice → dev ∈ s.cfg.knownIds → IsFrame s.cfg dev mode payload f →
    s.inbox = f.map Input.rx ++ rest →
    ∃ c, Host.Core.run core f.length s =
      exec (decodeRequest s.cfg { deviceId := dev, lengthByte := BitVec.ofNat 8 (s.cfg.lenBias + 1 + payload.length),
                                  mode := mode, payload := payload, checksum := c }) (s.begun rest)

/-! ### The decoder's rows -/

/-- 41_frame_codec.md R132. -/
def Obligations.DeviceByteOpensAFrameOrIsIgnored : Prop :=
  ∀ (s : State) (b : Byte), s.rx = .waitDevice →
    (b ∈ s.cfg.knownIds → exec (.rxWaitDevice b) s = .next { s with rx := .waitLength b }) ∧
    (b ∉ s.cfg.knownIds → exec (.rxWaitDevice b) s = .next s)

/-- 41_frame_codec.md R133; that the offending byte is consumed is decision D6. With the
document's LEN_BIAS the smallest legal byte is 86. -/
def Obligations.LengthByteIsCheckedAndLatched : Prop :=
  ∀ (s : State) (dev b : Byte), s.rx = .waitLength dev →
    (b.toNat < s.cfg.lenBias + 1 →
      exec (.rxWaitLength b) s = .next { s with rx := .waitDevice, err := some .invalidLength }) ∧
    (s.cfg.lenBias + 1 ≤ b.toNat → ∃ t, exec (.rxWaitLength b) s = .next t ∧ t = { s with rx := .waitMode dev b } ∧
      t.rxN = some (b.toNat - s.cfg.lenBias - 1))

/-- 41_frame_codec.md R134; that an empty payload passes the payload state through is decision D7. -/
def Obligations.ModeByteIsLatchedUnchecked : Prop :=
  ∀ (s : State) (dev len b : Byte), s.rx = .waitMode dev len →
    (s.rxN = some 0 → exec (.rxWaitMode b) s = .next { s with rx := .waitChecksum dev len b [] }) ∧
    (s.rxN ≠ some 0 → ∃ t, exec (.rxWaitMode b) s = .next t ∧
      t = { s with rx := .waitPayload dev len b [] } ∧ t.rxIdx = some 0)

/-- 41_frame_codec.md R135: every byte is stored at `rx_idx`; the state stays WAIT_PAYLOAD for exactly `rx_n` bytes and
then is WAIT_CHECKSUM; with fewer bytes the decoder stays. -/
def Obligations.PayloadBytesAreStoredUntilAllArrived : Prop :=
  (∀ (s : State) (dev len mode b : Byte) (pay : List Byte), s.rx = .waitPayload dev len mode pay →
    (s.rxN = some (pay.length + 1) →
      exec (.rxWaitPayload b) s = .next { s with rx := .waitChecksum dev len mode (pay ++ [b]) }) ∧
    (s.rxN ≠ some (pay.length + 1) →
      exec (.rxWaitPayload b) s = .next { s with rx := .waitPayload dev len mode (pay ++ [b]) })) ∧
  (∀ (cfg : Config.Profile) (dev len mode : Byte) (bytes : List Byte),
    (bytes.length < len.toNat - (cfg.lenBias + 1) →
      decodeStream cfg (.waitPayload dev len mode []) bytes = ([], .waitPayload dev len mode bytes)) ∧
    (0 < bytes.length → bytes.length = len.toNat - (cfg.lenBias + 1) →
      decodeStream cfg (.waitPayload dev len mode []) bytes = ([], .waitChecksum dev len mode bytes)))

/-- 41_frame_codec.md R137: the received byte is compared with the checksum of the latched frame; a good frame is
dispatched in the same step with the decoder back in WAIT_DEVICE, a bad one is dropped and reported. -/
def Obligations.ChecksumByteDispatchesOrDrops : Prop :=
  ∀ (s : State) (dev len mode b : Byte) (pay : List Byte), s.rx = .waitChecksum dev len mode pay →
    (b.toNat = (256 - byteSum ([dev, len, mode] ++ pay) % 256) % 256 →
      exec (.rxWaitChecksum b) s =
        exec (decodeRequest s.cfg { deviceId := dev, lengthByte := len, mode := mode, payload := pay, checksum := b })
          { s with rx := .waitDevice }) ∧
    (b.toNat ≠ (256 - byteSum ([dev, len, mode] ++ pay) % 256) % 256 →
      exec (.rxWaitChecksum b) s = .next { s with rx := .waitDevice, err := some .checksumMismatch })

/-- 41_frame_codec.md section 1, the consequence tagged there as derived from R132 to R135 and R137: after an accepted id
and a legal length byte L the decoder takes exactly rx_n + 2 more bytes, whatever they are (with the document's LEN_BIAS,
L - 84): it is in a frame before the last of them and rests after it. -/
def Obligations.DecoderTakesTheAnnouncedNumberOfBytes : Prop :=
  ∀ (cfg : Config.Profile) (dev len : Byte) (bytes : List Byte), cfg.lenBias + 1 ≤ len.toNat →
    (bytes.length < len.toNat - (cfg.lenBias + 1) + 2 →
      (decodeStream cfg (.waitMode dev len) bytes).1 = [] ∧
      (decodeStream cfg (.waitMode dev len) bytes).2.state ≠ .waitDevice) ∧
    (bytes.length = len.toNat - (cfg.lenBias + 1) + 2 →
      (decodeStream cfg (.waitMode dev len) bytes).2 = .waitDevice ∧
      (decodeStream cfg (.waitMode dev len) bytes).1.length = 1)

/-- 41_frame_codec.md section 1 (tagged as derived from 40_checksum.md R122): a complete frame is accepted exactly when
the sum of all its bytes is 0 modulo 256. -/
def Obligations.AFrameIsGoodExactlyWhenItsBytesSumToZero : Prop :=
  ∀ (cfg : Config.Profile) (dev len mode b : Byte) (pay : List Byte), dev ∈ cfg.knownIds →
    cfg.lenBias + 1 ≤ len.toNat → pay.length = len.toNat - (cfg.lenBias + 1) →
    ((∃ f, decodeStream cfg .waitDevice ([dev, len, mode] ++ pay ++ [b]) = ([.done f], .waitDevice)) ↔
      byteSum ([dev, len, mode] ++ pay ++ [b]) % 256 = 0)

/-- 41_frame_codec.md section 2, law (c) with the restriction of 90_conflicts.md C5: changing one byte of a valid frame,
other than the length byte and other than the id into an unknown id, is always reported as ChecksumMismatch and as nothing
else. -/
def Obligations.SingleByteCorruptionIsReported : Prop :=
  ∀ (cfg : Config.Profile) (dev mode : Byte) (payload f : List Byte) (i : Nat) (x : Byte),
    dev ∈ cfg.knownIds → IsFrame cfg dev mode payload f → i < f.length → i ≠ 1 →
    (i = 0 → x ∈ cfg.knownIds) → f[i]? ≠ some x →
    decodeStream cfg .waitDevice (f.set i x) = ([.error .checksumMismatch], .waitDevice)

/-! ### Checksum and encoder -/

/-- 40_checksum.md R120. -/
def Obligations.ChecksumPortAnswersTheNegatedSum : Prop :=
  ∀ (bytes : List Byte) (s : State), ∃ c : Byte,
    c.toNat = (256 - byteSum bytes % 256) % 256 ∧
    exec (.checksum bytes) s = .next { s with fnOut := s.fnOut ++ [.byte c] }

/-- 40_checksum.md section with the laws tagged as derived from R120: (b), (c), (e), and the streaming form. -/
def Obligations.ChecksumLawsHold : Prop :=
  (∀ s : List Byte, checksum (s ++ [checksum s]) = 0#8) ∧
  (∀ s t : List Byte, (checksum (s ++ t)).toNat = ((checksum s).toNat + (checksum t).toNat) % 256) ∧
  (∀ s t : List Byte, s.Perm t → checksum s = checksum t) ∧
  (∀ (s t : List Byte) (x y : Byte), x ≠ y → checksum (s ++ x :: t) ≠ checksum (s ++ y :: t)) ∧
  (∀ s : List Byte, checksum s = 0#8 - s.foldl (fun acc b => acc + b) 0#8)

/-- 41_frame_codec.md section 2; the refusal of a payload no frame can hold and its kind are decision D4, the absence of id
and mode checks is D35. With the document's values the bound is 169 bytes (90_conflicts.md C1). -/
def Obligations.EncodePortAnswersAFrameOrRefuses : Prop :=
  (∀ (dev mode : Byte) (payload : List Byte) (s : State),
    (payload.length ≤ s.cfg.maxPayload → s.cfg.lenBias + 1 + payload.length ≤ 255 →
      ∃ f, IsFrame s.cfg dev mode payload f ∧
        exec (.encode dev mode payload) s = .next { s with fnOut := s.fnOut ++ [.bytes f] }) ∧
    (s.cfg.maxPayload < payload.length ∨ 255 < s.cfg.lenBias + 1 + payload.length →
      exec (.encode dev mode payload) s =
        .next { s with err := some .invalidLength, fnOut := s.fnOut ++ [.error .invalidLength] })) ∧
  ∀ n : Nat, n ≤ 169 ↔ n ≤ Config.document.maxPayload ∧ Config.document.lenBias + 1 + n ≤ 255

/-- 30_encoding.md R81, with the document's values (00_scope.md R8). -/
def Obligations.LengthByteIsEightySixPlusPayload : Prop :=
  ∀ (dev mode : Byte) (payload : List Byte),
    (payload.length ≤ 169 ↔ ∃ f, encodeFrame Config.document dev mode payload = some f) ∧
    ∀ f, encodeFrame Config.document dev mode payload = some f →
      ∃ len : Byte, f[1]? = some len ∧ len.toNat = 85 + 1 + payload.length ∧ 86 ≤ len.toNat ∧ len.toNat ≤ 255 ∧
        f.length = payload.length + 4 ∧ f.length = len.toNat - 82 ∧ 4 ≤ f.length ∧ f.length ≤ 173

/-! ### The security handshake -/

/-- 43_security.md R190, with the document's KEY_CONSTANT. -/
def Obligations.ComputeKeyPortSubtractsTheSwappedSeed : Prop :=
  ∀ (seedHi seedLo : Byte) (s : State), s.cfg = Config.document → ∃ k : Word16,
    (k.toNat : Int) = (37709 - ((seedLo.toNat : Int) * 256 + seedHi.toNat)) % 65536 ∧
    exec (.computeKey seedHi seedLo) s = .next { s with fnOut := s.fnOut ++ [.key k] }

/-- 43_security.md section 1, tagged there as derived from the formula: the key function is a bijection between seed pairs
and 16-bit keys, and the seed is recovered by the same formula. -/
def Obligations.ComputeKeyIsABijection : Prop :=
  (∀ hi lo hi' lo' : Byte, keyOf Config.document hi lo = keyOf Config.document hi' lo' → hi = hi' ∧ lo = lo') ∧
  (∀ k : Word16, ∃ hi lo : Byte, keyOf Config.document hi lo = k) ∧
  (∀ hi lo : Byte, (seedNumber hi lo : Int) = (37709 - ((keyOf Config.document hi lo).toNat : Int)) % 65536)

/-- 43_security.md section 2: a seed request served in LOCKED, and in SEED_ISSUED by decision D20, records the two bytes
of the draw and answers them with the sub-mode echoed (D18); nothing else changes but the environment's draws. The second
clause is a configuration whose frames cannot hold three bytes (41_frame_codec.md on ENCODE, D4; that the session is
SEED_ISSUED all the same is log 19), which the document's is not: the third clause. -/
def Obligations.SeedRequestIssuesTheDrawnSeed : Prop :=
  (∀ (dev submode : Byte) (s : State), s.sessState ≠ .unlocked →
    ∃ idx, ∃ hi lo : Byte,
      hi = s.nextDraw.extractLsb' 8 8 ∧ lo = s.nextDraw.extractLsb' 0 8 ∧
      (s.cfg.fits 3 = true →
        Transmits { s with drawIn := s.drawIn.tail, freeIdx := idx, sess := .seedIssued hi lo } dev 13#8
          [submode, hi, lo] (exec (.seedRequest dev submode) s)) ∧
      (s.cfg.fits 3 = false → exec (.seedRequest dev submode) s =
        .next { s with drawIn := s.drawIn.tail, freeIdx := idx, sess := .seedIssued hi lo,
                       err := some .invalidLength })) ∧
  Config.document.fits 3 = true

/-- 43_security.md section 2, decision D20: a seed request in UNLOCKED is answered 0xCC and changes nothing else, the
environment's draws included. -/
def Obligations.SeedRequestInUnlockedIsRejected : Prop :=
  ∀ (dev submode : Byte) (s : State), s.cfg = Config.document → s.sessState = .unlocked →
    Transmits s dev 13#8 [0xCC#8] (exec (.seedRequest dev submode) s)

/-- 43_security.md section 2: the submitted key is compared with the key of the recorded seed; equality unlocks and keeps
the seed, anything else locks and drops it. The one-byte reply payloads are decision D17. -/
def Obligations.KeySubmitUnlocksExactlyOnEquality : Prop :=
  ∀ (dev : Byte) (submitted : Word16) (hi lo : Byte) (s : State), s.cfg = Config.document →
    s.sess = .seedIssued hi lo →
    ((submitted.toNat : Int) = (37709 - ((lo.toNat : Int) * 256 + hi.toNat)) % 65536 →
      Transmits { s with sess := .unlocked hi lo } dev 13#8 [0xAA#8] (exec (.keySubmit dev submitted) s)) ∧
    ((submitted.toNat : Int) ≠ (37709 - ((lo.toNat : Int) * 256 + hi.toNat)) % 65536 →
      Transmits { s with sess := .locked } dev 13#8 [0xCC#8] (exec (.keySubmit dev submitted) s))

/-- 43_security.md section 2, decision D20: a key submission in LOCKED is answered 0xCC, in UNLOCKED 0xAA; neither
compares nor changes anything. -/
def Obligations.KeySubmitOutsideSeedIssuedChangesNothing : Prop :=
  ∀ (dev : Byte) (submitted : Word16) (s : State), s.cfg = Config.document →
    (s.sessState = .locked → Transmits s dev 13#8 [0xCC#8] (exec (.keySubmit dev submitted) s)) ∧
    (s.sessState = .unlocked → Transmits s dev 13#8 [0xAA#8] (exec (.keySubmit dev submitted) s))

/-- 43_security.md section 2, decision D15: a mode-13 request of another length is answered 0x55 with UnknownMode, in
every session state, and changes nothing else. -/
def Obligations.MalformedSecurityRequestIsAnsweredFail : Prop :=
  ∀ (dev : Byte) (payload : List Byte) (s : State), s.cfg = Config.document →
    Transmits { s with err := some .unknownMode } dev 13#8 [0x55#8] (exec (.secMalformed dev payload) s)

/-- 43_security.md section 2, the guarantee tagged there as derived: a step makes the session UNLOCKED only from
SEED_ISSUED, by the right checksum byte of a mode-13 frame of length 0x58 whose two bytes are the key of the recorded seed,
high byte first (decision D16). In states that meet the invariant of 10_state.md section 5 the payload is those two bytes;
in others, which no run reaches, the latches may hold more. -/
def Obligations.OnlyTheMatchingKeyUnlocks : Prop :=
  ∀ s t : State, s.cfg = Config.document → step s = .next t → s.sessState ≠ .unlocked → t.sessState = .unlocked →
    ∃ (hi lo dev keyHi keyLo b : Byte) (more : List Byte) (rest : List Input),
      s.sess = .seedIssued hi lo ∧ t.sess = .unlocked hi lo ∧ s.inbox = .rx b :: rest ∧
      s.rx = .waitChecksum dev 0x58#8 13#8 (keyHi :: keyLo :: more) ∧ (Invariant s → more = []) ∧
      b = checksum ([dev, 0x58#8, 13#8, keyHi, keyLo] ++ more) ∧
      ((keyHi.toNat : Int) * 256 + keyLo.toNat) = (37709 - ((lo.toNat : Int) * 256 + hi.toNat)) % 65536

/-- 43_security.md section 2 ("No wire request leaves UNLOCKED"; "terminal for the connection"): an UNLOCKED session,
seed included, is changed only by an event that resets the session. -/
def Obligations.UnlockedIsLeftOnlyByAResettingEvent : Prop :=
  ∀ s t : State, step s = .next t → s.sessState = .unlocked → t.sess ≠ s.sess →
    ∃ e rest, s.inbox = .evt e :: rest ∧ e.resetsSession = true ∧ t.sess = .locked

/-- 70_reset_and_hazards.md section 3 on seed expiry (decisions D20, D22): after any session-resetting event a key
submission, even of the right key, is answered 0xCC and the session stays LOCKED. -/
def Obligations.KeyAfterASessionResetIsRejected : Prop :=
  ∀ (s : State) (e : Event) (dev : Byte) (submitted : Word16), s.cfg = Config.document → e.resetsSession = true →
    ∃ t u, exec e.instr s = .next t ∧ exec (.keySubmit dev submitted) t = .next u ∧
      u.sess = .locked ∧ ∃ f, IsFrame s.cfg dev 13#8 [0xCC#8] f ∧ u.tx = s.tx ++ f

/-! ### The dispatcher -/

/-- 42_dispatcher.md R164: modes 5 and 6 outside UNLOCKED are answered 0xCC with UnauthorizedAccess; the handler is not
called and the session, seed included, stays. -/
def Obligations.GateRejectsModes5And6OutsideUnlocked : Prop :=
  ∀ (dev : Byte) (payload : List Byte) (s : State), s.cfg = Config.document → s.sessState ≠ .unlocked →
    Transmits { s with err := some .unauthorizedAccess } dev 5#8 [0xCC#8] (exec (.mode5FlashEntry dev payload) s) ∧
    Transmits { s with err := some .unauthorizedAccess } dev 6#8 [0xCC#8] (exec (.mode6UploadExecute dev payload) s)

/-- 42_dispatcher.md section on modes 5 and 6, handler convention by decision D13: in UNLOCKED the request reaches its
handler with the whole payload, the function requests the handler makes take effect (10_state.md R35; log 7) and the session
stays. -/
def Obligations.GatePassesModes5And6InUnlocked : Prop :=
  ∀ (dev : Byte) (payload : List Byte) (s : State), s.sessState = .unlocked →
    Forwards .flashEntry dev 5#8 payload s (exec (.mode5FlashEntry dev payload) s) ∧
    Forwards .upload dev 6#8 payload s (exec (.mode6UploadExecute dev payload) s)

/-- 42_dispatcher.md R172 (tagged there as derived), with R164, R168 and 43_security.md R193, R195: from LOCKED, a mode-6
request is rejected (UnauthorizedAccess, the 0xCC frame, no call), a seed request issues a seed, the same mode-6 request is
rejected again, the key of that seed unlocks, and the identical mode-6 request then calls H_upload. Reply layouts by D9 to
D11 and D17, sub-mode echo by D18, the seed by D19, key byte order by D16. The last clause is the
handler convention (D13, D38) with the handler's own function requests, of which log 7 says that the kind left on err when
several checks fail is the model's choice. -/
def Obligations.UploadIsDispatchedOnceUnlocked : Prop :=
  ∀ (dev submode : Byte) (payload : List Byte) (s : State), s.cfg = Config.document → s.sess = .locked →
    ∃ (r q v t u : State) (hi lo : Byte) (key : Word16),
      exec (.mode6UploadExecute dev payload) s = .next r ∧
      Transmits { s with err := some .unauthorizedAccess } dev 6#8 [0xCC#8] (.next r) ∧
      exec (.seedRequest dev submode) r = .next q ∧ q.sess = .seedIssued hi lo ∧ q.calls = s.calls ∧
      (∃ f, IsFrame s.cfg dev 13#8 [submode, hi, lo] f ∧ q.tx = r.tx ++ f) ∧
      exec (.mode6UploadExecute dev payload) q = .next v ∧
      Transmits { q with err := some .unauthorizedAccess } dev 6#8 [0xCC#8] (.next v) ∧
      (key.toNat : Int) = (37709 - ((lo.toNat : Int) * 256 + hi.toNat)) % 65536 ∧
      exec (.keySubmit dev key) v = .next t ∧
      Transmits { v with sess := .unlocked hi lo } dev 13#8 [0xAA#8] (.next t) ∧
      exec (.mode6UploadExecute dev payload) t = .next u ∧
      u.calls = s.calls ++ [.frame .upload dev 6#8 payload] ∧ u.sess = .unlocked hi lo ∧
      Forwards .upload dev 6#8 payload t (.next u)

/-- 43_security.md section 2, the guarantee tagged there as derived, and 42_dispatcher.md R164: a step that calls
H_flash_entry or H_upload begins in UNLOCKED and ends there. -/
def Obligations.PrivilegedHandlersRunOnlyInUnlocked : Prop :=
  ∀ s t : State, step s = .next t →
    ∃ new, t.calls = s.calls ++ new ∧ new.length ≤ 1 ∧
      ∀ c ∈ new, c.privileged = true → s.sessState = .unlocked ∧ t.sess = s.sess

/-- 42_dispatcher.md on mode 1, handler convention by decision D12; the handler's own function requests: 10_state.md R35, log 7. -/
def Obligations.Mode1ForwardsToTelemetry : Prop :=
  ∀ (dev : Byte) (payload : List Byte) (s : State),
    Forwards .telemetry dev 1#8 payload s (exec (.mode1Datastream dev payload) s)

/-- 42_dispatcher.md on modes 2, 3, 7, 8, 9, 10: decision D12; the handlers' own function requests: 10_state.md R35, log 7. -/
def Obligations.NamedModesForwardToExternalHandlers : Prop :=
  ∀ (dev : Byte) (payload : List Byte) (s : State),
    Forwards (.ext 2#8) dev 2#8 payload s (exec (.mode2FreezeFrame dev payload) s) ∧
    Forwards (.ext 3#8) dev 3#8 payload s (exec (.mode3DtcRead dev payload) s) ∧
    Forwards (.ext 7#8) dev 7#8 payload s (exec (.mode7ClearDtc dev payload) s) ∧
    Forwards (.ext 8#8) dev 8#8 payload s (exec (.mode8DisableChatter dev payload) s) ∧
    Forwards (.ext 9#8) dev 9#8 payload s (exec (.mode9EnableChatter dev payload) s) ∧
    Forwards (.ext 10#8) dev 10#8 payload s (exec (.mode10DiagNvram dev payload) s)

/-- 42_dispatcher.md on mode 4 (decision D14 for the control byte's place and the empty payload; length byte 0x57 by
90_conflicts.md C2): the callback gets the first byte, the function requests it makes take effect (10_state.md R34, R35;
log 7), and its status byte is answered, in every session state. -/
def Obligations.Mode4CallsOutputAndAnswersItsStatus : Prop :=
  ∀ (dev : Byte) (s : State), s.cfg = Config.document →
    (∀ (controlByte : Byte) (more : List Byte), ∃ idx, ∃ t : State,
      Called { s with statusIn := s.statusIn.tail, freeIdx := idx } (.output controlByte) s.nextStatus.requests t ∧
      Transmits t dev 4#8 [s.nextStatus.status] (exec (.mode4ActuatorTest dev (controlByte :: more)) s)) ∧
    Transmits { s with err := some .unknownMode } dev 4#8 [0x55#8] (exec (.mode4ActuatorTest dev []) s)

/-- 42_dispatcher.md R170. -/
def Obligations.ReservedModeIsAnsweredFail : Prop :=
  ∀ (dev mode : Byte) (payload : List Byte) (s : State), s.cfg = Config.document →
    Transmits { s with err := some .unknownMode } dev mode [0x55#8] (exec (.reservedMode dev mode payload) s)

/-- 30_encoding.md section 4 (payload lengths by decisions D11, D17, reply mode by D10): each REPLY row transmits its
frame and changes nothing else. -/
def Obligations.ReplyRowsTransmitTheirFrames : Prop :=
  ∀ (s : State), s.cfg = Config.document →
    (∀ dev submode hi lo, Transmits s dev 13#8 [submode, hi, lo] (exec (.seedResponse dev submode hi lo) s)) ∧
    (∀ dev, Transmits s dev 13#8 [0xAA#8] (exec (.keyResultAccepted dev) s)) ∧
    (∀ dev, Transmits s dev 13#8 [0xCC#8] (exec (.keyResultRejected dev) s)) ∧
    (∀ dev mode, Transmits s dev mode [0xCC#8] (exec (.responseRejected dev mode) s)) ∧
    (∀ dev mode, Transmits s dev mode [0x55#8] (exec (.responseFail dev mode) s)) ∧
    (∀ dev status, Transmits s dev 4#8 [status] (exec (.mode4Reply dev status) s))

/-- 42_dispatcher.md on handler replies, decision D38: a payload a frame can hold is framed, a longer one raises
InvalidLength and nothing is transmitted. With the document's values the bound is 169 bytes. -/
def Obligations.HandlerReplyIsFramedOrRefused : Prop :=
  (∀ (dev mode : Byte) (payload : List Byte) (s : State),
    (s.cfg.fits payload.length = true → Transmits s dev mode payload (exec (.handlerReply dev mode payload) s)) ∧
    (s.cfg.fits payload.length = false →
      exec (.handlerReply dev mode payload) s = .next { s with err := some .invalidLength })) ∧
  ∀ n : Nat, Config.document.fits n = true ↔ n ≤ 169

/-- 42_dispatcher.md section on replies (decisions D9, D10) and 10_state.md R31: a step transmits nothing or exactly one
whole frame, and then it is the step of the checksum byte that completes a request and the frame carries the request's id
and mode. -/
def Obligations.AStepTransmitsAtMostOneFrameEchoingTheRequest : Prop :=
  ∀ s t : State, step s = .next t → t.tx = s.tx ∨
    ∃ dev len mode pay b rest p f, s.rx = .waitChecksum dev len mode pay ∧ s.inbox = .rx b :: rest ∧
      b = checksum ([dev, len, mode] ++ pay) ∧ IsFrame s.cfg dev mode p f ∧ t.tx = s.tx ++ f

/-- 42_dispatcher.md ("written only by the Security Handshake", decision D21 for modes 5 and 6), 41_frame_codec.md on
framing errors (D8): no operation but SEED_REQUEST, KEY_SUBMIT, the checksum byte that delivers one of the two (a mode-13
frame with their length byte, 43_security.md R199, R200), and the five session-resetting events changes the session. -/
def Obligations.OnlySecurityAndResetsWriteTheSession : Prop :=
  ∀ (i : Instr) (s t : State), exec i s = .next t → t.sess ≠ s.sess →
    (∃ dev submode, i = .seedRequest dev submode) ∨ (∃ dev k, i = .keySubmit dev k) ∨
    (∃ b dev len pay, i = .rxWaitChecksum b ∧ s.rx = .waitChecksum dev len 13#8 pay ∧
      b = checksum ([dev, len, 13#8] ++ pay) ∧ (len = s.cfg.lenSeedRequest ∨ len = s.cfg.lenKeySubmit)) ∨
    i = .powerOn ∨ i = .connect ∨ i = .busReset ∨ i = .disconnect ∨ i = .timeout

/-! ### Translator and patch window -/

/-- 44_translator.md section on TRANSLATE: the bank is checked first for every address (decision D27), the three bases
apply from WINDOW_BASE up. First for every configuration whose three bank codes differ (00_scope.md R8, R9), then with the
document's numbers. -/
def Obligations.TranslatePortFollowsTheBankBases : Prop :=
  ∀ (bankId : Byte) (cpuAddr : Word16) (s : State),
    (s.cfg.bankCode1 ≠ s.cfg.bankCode2 → s.cfg.bankCode1 ≠ s.cfg.bankCode3 → s.cfg.bankCode2 ≠ s.cfg.bankCode3 →
      (bankId ≠ s.cfg.bankCode1 → bankId ≠ s.cfg.bankCode2 → bankId ≠ s.cfg.bankCode3 →
        exec (.translate bankId cpuAddr) s =
          .next { s with err := some .bankOutOfRange, fnOut := s.fnOut ++ [.error .bankOutOfRange] }) ∧
      (bankId = s.cfg.bankCode1 ∨ bankId = s.cfg.bankCode2 ∨ bankId = s.cfg.bankCode3 →
        cpuAddr.toNat < s.cfg.windowBase →
        exec (.translate bankId cpuAddr) s = .next { s with fnOut := s.fnOut ++ [.offset cpuAddr.toNat] }) ∧
      (s.cfg.windowBase ≤ cpuAddr.toNat →
        (bankId = s.cfg.bankCode1 → exec (.translate bankId cpuAddr) s = .next { s with
          fnOut := s.fnOut ++ [.offset (s.cfg.bankBase1 + (cpuAddr.toNat - s.cfg.windowBase))] }) ∧
        (bankId = s.cfg.bankCode2 → exec (.translate bankId cpuAddr) s = .next { s with
          fnOut := s.fnOut ++ [.offset (s.cfg.bankBase2 + (cpuAddr.toNat - s.cfg.windowBase))] }) ∧
        (bankId = s.cfg.bankCode3 → exec (.translate bankId cpuAddr) s = .next { s with
          fnOut := s.fnOut ++ [.offset (s.cfg.bankBase3 + (cpuAddr.toNat - s.cfg.windowBase))] }))) ∧
    (s.cfg = Config.document →
      (bankId ≠ 1#8 → bankId ≠ 2#8 → bankId ≠ 3#8 → exec (.translate bankId cpuAddr) s =
        .next { s with err := some .bankOutOfRange, fnOut := s.fnOut ++ [.error .bankOutOfRange] }) ∧
      (bankId = 1#8 ∨ bankId = 2#8 ∨ bankId = 3#8 → cpuAddr.toNat < 0x8000 → exec (.translate bankId cpuAddr) s =
        .next { s with fnOut := s.fnOut ++ [.offset cpuAddr.toNat] }) ∧
      (0x8000 ≤ cpuAddr.toNat →
        (bankId = 1#8 → exec (.translate bankId cpuAddr) s =
          .next { s with fnOut := s.fnOut ++ [.offset (0x00000 + (cpuAddr.toNat - 0x8000))] }) ∧
        (bankId = 2#8 → exec (.translate bankId cpuAddr) s =
          .next { s with fnOut := s.fnOut ++ [.offset (0x10000 + (cpuAddr.toNat - 0x8000))] }) ∧
        (bankId = 3#8 → exec (.translate bankId cpuAddr) s =
          .next { s with fnOut := s.fnOut ++ [.offset (0x18000 + (cpuAddr.toNat - 0x8000))] })))

/-- 44_translator.md, the laws tagged there as derived ((a) to (d), largest offset), and 70_reset_and_hazards.md on
IMAGE_SIZE: with the document's bases. -/
def Obligations.TranslationLawsHold : Prop :=
  (∀ b a, a < 0x8000 → fileOffset Config.document b a = a) ∧
  (∀ b a, a ≠ 0x7FFF → a < 0xFFFF →
    fileOffset Config.document b (a + 1) = fileOffset Config.document b a + 1) ∧
  (∀ b b' a a', 0x8000 ≤ a → a ≤ 0xFFFF → 0x8000 ≤ a' → a' ≤ 0xFFFF →
    (fileOffset Config.document b a = fileOffset Config.document b' a' ↔ b = b' ∧ a = a')) ∧
  (∀ b k, k < 0x8000 → fileOffset Config.document .bank1 (0x8000 + k) = fileOffset Config.document b k) ∧
  (∀ b a, a ≤ 0xFFFF → fileOffset Config.document b a ≤ 0x1FFFF ∧
    ¬ (0x8000 ≤ fileOffset Config.document b a ∧ fileOffset Config.document b a ≤ 0xFFFF)) ∧
  (∀ imageSize b a, 0x20000 ≤ imageSize → a ≤ 0xFFFF → fileOffset Config.document b a < imageSize)

/-- 44_translator.md on PATCH_CHECK, decision D28: a request is inside the window only if every byte of it is. -/
def Obligations.PatchCheckPortGuardsTheWindow : Prop :=
  ∀ (cpuAddr : Word16) (len : Nat) (s : State), s.cfg = Config.document →
    (0x5D00 ≤ cpuAddr.toNat → cpuAddr.toNat + len ≤ 0x6000 →
      exec (.patchCheck cpuAddr len) s = .next { s with fnOut := s.fnOut ++ [.ok] }) ∧
    (¬ (0x5D00 ≤ cpuAddr.toNat ∧ cpuAddr.toNat + len ≤ 0x6000) →
      exec (.patchCheck cpuAddr len) s =
        .next { s with err := some .patchOverflow, fnOut := s.fnOut ++ [.error .patchOverflow] })

/-- 44_translator.md on PATCH_WRITE, decision D28: an accepted request issues one byte write per data byte, in increasing
order, at offset = address; in the image view (log 9) those bytes are the data and every other byte reads as before. -/
def Obligations.PatchWriteIssuesEveryByteInOrder : Prop :=
  ∀ (bankId : Byte) (cpuAddr : Word16) (data : List Byte) (s : State), s.cfg = Config.document →
    (bankId = 1#8 ∨ bankId = 2#8 ∨ bankId = 3#8) → 0x5D00 ≤ cpuAddr.toNat →
    cpuAddr.toNat + data.length ≤ 0x6000 →
    ∃ w image, exec (.patchWrite bankId cpuAddr data) s =
        .next { s with img := s.img ++ w, image := image, fnOut := s.fnOut ++ [.ok] } ∧
      w.length = data.length ∧ (∀ i < data.length, w[i]? = data[i]?.map fun b => (cpuAddr.toNat + i, b)) ∧
      (∀ i < data.length, Memory.read image (cpuAddr.toNat + i) = data[i]?) ∧
      (∀ a, a < cpuAddr.toNat ∨ cpuAddr.toNat + data.length ≤ a → Memory.read image a = Memory.read s.image a)

/-- 44_translator.md on PATCH_WRITE, decision D28: the window is tested before the bank; a failing request writes
nothing. -/
def Obligations.FailingPatchWriteWritesNothing : Prop :=
  ∀ (bankId : Byte) (cpuAddr : Word16) (data : List Byte) (s : State), s.cfg = Config.document →
    (¬ (0x5D00 ≤ cpuAddr.toNat ∧ cpuAddr.toNat + data.length ≤ 0x6000) →
      exec (.patchWrite bankId cpuAddr data) s =
        .next { s with err := some .patchOverflow, fnOut := s.fnOut ++ [.error .patchOverflow] }) ∧
    (0x5D00 ≤ cpuAddr.toNat → cpuAddr.toNat + data.length ≤ 0x6000 →
      bankId ≠ 1#8 → bankId ≠ 2#8 → bankId ≠ 3#8 →
      exec (.patchWrite bankId cpuAddr data) s =
        .next { s with err := some .bankOutOfRange, fnOut := s.fnOut ++ [.error .bankOutOfRange] })

/-- 44_translator.md R223 and 20_memory.md R54: with the document's configuration every write request the block issues,
in any step from any state, lies in the 768-byte patch window, and only a PATCH_WRITE request issues any: one from the host,
which is the step's input, or one a handler makes while the step of a checksum byte calls it (10_state.md R35; that a
handler's requests are prepared in State is log 7). -/
def Obligations.WritesStayInThePatchWindow : Prop :=
  ∀ s t : State, s.cfg = Config.document → step s = .next t →
    ∃ w, t.img = s.img ++ w ∧ (∀ r ∈ w, 0x5D00 ≤ r.1 ∧ r.1 < 0x6000) ∧
      (w ≠ [] → ∃ bankId cpuAddr data,
        (∃ rest, s.inbox = .fn (.patchWrite bankId cpuAddr data) :: rest) ∨
        (∃ b rest, s.inbox = .rx b :: rest ∧ s.rxState = .waitChecksum ∧ t.calls ≠ s.calls ∧
          .patchWrite bankId cpuAddr data ∈ s.nextReply.requests ++ s.nextStatus.requests)) ∧
      (∀ a, a < 0x5D00 ∨ 0x6000 ≤ a → Memory.read t.image a = Memory.read s.image a)

/-- 10_state.md on the function ports, 20_memory.md R58: a function request touches neither decoder nor session, transmits
nothing, calls no handler and always answers; only PATCH_WRITE issues writes. -/
def Obligations.FunctionPortsTouchNoState : Prop :=
  ∀ (s : State) (r : FnRequest), ∃ t, exec r.instr s = .next t ∧
    t.rx = s.rx ∧ t.sess = s.sess ∧ t.tx = s.tx ∧ t.calls = s.calls ∧ (∃ a, t.fnOut = s.fnOut ++ [a]) ∧
    ((∀ bankId cpuAddr data, r ≠ .patchWrite bankId cpuAddr data) → t.img = s.img ∧ t.image = s.image)

/-! ### Events -/

/-- 10_state.md R38 and 60_exceptions.md R250 to R254: CONNECT, BUS_RESET and DISCONNECT lock the session and reset the
decoder (the decoder part by decision D22), TIMEOUT locks the session and keeps the partial frame (D22). -/
def Obligations.SessionEventsFollowTheResetTable : Prop :=
  ∀ s : State,
    exec .connect s = .next { s with rx := .waitDevice, sess := .locked } ∧
    exec .busReset s = .next { s with rx := .waitDevice, sess := .locked } ∧
    exec .disconnect s = .next { s with rx := .waitDevice, sess := .locked } ∧
    exec .timeout s = .next { s with sess := .locked }

/-- 60_exceptions.md R255. -/
def Obligations.CancelDropsThePartialFrameOnly : Prop :=
  ∀ s : State, exec .cancel s = .next { s with rx := .waitDevice } ∧
    (s.rx = .waitDevice → exec .cancel s = .next s)

/-- 60_exceptions.md section 2, tagged there as derived: every event applied twice in a row equals applying it once. -/
def Obligations.EventsAreIdempotent : Prop :=
  ∀ (e : Event) (s : State), ∃ t, exec e.instr s = .next t ∧ exec e.instr t = .next t

/-- 70_reset_and_hazards.md section 3 on stalled frames (tagged there as derived): inside a frame nothing but a received
byte, POWER_ON, CONNECT, BUS_RESET, DISCONNECT or CANCEL changes the decoder. -/
def Obligations.OnlyBytesAndDecoderResetsMoveTheDecoder : Prop :=
  ∀ s t : State, step s = .next t → t.rx ≠ s.rx →
    (∃ b rest, s.inbox = .rx b :: rest) ∨
    (∃ e rest, s.inbox = .evt e :: rest ∧ e ≠ .timeout ∧ t.rx = .waitDevice)

/-! ### Whole-machine rules -/

/-- 10_state.md section 5, tagged there as derived, and log 10: the invariant holds at reset. -/
def Obligations.ResetMeetsTheInvariant : Prop := Invariant State.reset

/-- 10_state.md section 5, tagged there as derived, and log 10: every step keeps the invariant: known id, legal length,
as many stored bytes as the decoder state allows, image view in canonical form. -/
def Obligations.EveryStepKeepsTheInvariant : Prop :=
  ∀ s t : State, Invariant s → step s = .next t → Invariant t

/-- 10_state.md section 4 ("no event and no request changes it"). -/
def Obligations.NoStepChangesTheConfiguration : Prop :=
  ∀ s t : State, step s = .next t → t.cfg = s.cfg

/-- 20_memory.md section 5 and 10_state.md on the ports: what has gone out on a port stays, each step consumes at most
its own input event, and the environment's prepared answers are consumed from the front, at most one a step. -/
def Obligations.PortsOnlyGrowAndInputsAreTakenInOrder : Prop :=
  ∀ s t : State, step s = .next t →
    s.tx <+: t.tx ∧ s.calls <+: t.calls ∧ s.img <+: t.img ∧ t.inbox = s.inbox.tail ∧
    t.drawIn.length + t.statusIn.length + t.replyIn.length + 1 ≥
      s.drawIn.length + s.statusIn.length + s.replyIn.length ∧
    t.drawIn <:+ s.drawIn ∧ t.statusIn <:+ s.statusIn ∧ t.replyIn <:+ s.replyIn

/-- 60_exceptions.md section 1: the error kinds a step can leave on `err`, with the cause each needs; a step without one
of these causes leaves `err` empty. A kind in the last two cases is one a function request was answered with: the host's, or
one a called handler made (10_state.md R35; log 7). -/
def Obligations.ErrorKindsHaveTheirCauses : Prop :=
  ∀ s t : State, step s = .next t → s.inbox ≠ [] → t.err ≠ none →
    (∃ b rest, s.inbox = .rx b :: rest ∧ (s.rxState = .waitLength ∧ t.err = some .invalidLength ∨
      s.rxState = .waitChecksum ∧ (t.err ∈ [some .invalidLength, some .checksumMismatch, some .unknownMode,
          some .unauthorizedAccess] ∨
        ∃ k, t.err = some k ∧ k ∈ [.bankOutOfRange, .patchOverflow] ∧ t.calls ≠ s.calls ∧ .error k ∈ t.fnOut))) ∨
    (∃ r rest, s.inbox = .fn r :: rest ∧ ∃ k, t.err = some k ∧
      k ∈ [.invalidLength, .bankOutOfRange, .patchOverflow] ∧ t.fnOut = [.error k])
end

