-- ==== Sys2Proof/Laws/State.lean ====
section
/-! SUPPORT. One lemma per field per update of State, so that no later proof unfolds a record update or a port
operation. -/

namespace Sys2Proof
namespace Machine

/-! `State.raise` -/

@[simp] theorem State.raise_cfg (s : State) (k : ErrKind) : (s.raise k).cfg = s.cfg := rfl
@[simp] theorem State.raise_rx (s : State) (k : ErrKind) : (s.raise k).rx = s.rx := rfl
@[simp] theorem State.raise_sess (s : State) (k : ErrKind) : (s.raise k).sess = s.sess := rfl
@[simp] theorem State.raise_image (s : State) (k : ErrKind) : (s.raise k).image = s.image := rfl
@[simp] theorem State.raise_inbox (s : State) (k : ErrKind) : (s.raise k).inbox = s.inbox := rfl
@[simp] theorem State.raise_drawIn (s : State) (k : ErrKind) : (s.raise k).drawIn = s.drawIn := rfl
@[simp] theorem State.raise_statusIn (s : State) (k : ErrKind) : (s.raise k).statusIn = s.statusIn := rfl
@[simp] theorem State.raise_replyIn (s : State) (k : ErrKind) : (s.raise k).replyIn = s.replyIn := rfl
@[simp] theorem State.raise_freeIdx (s : State) (k : ErrKind) : (s.raise k).freeIdx = s.freeIdx := rfl
@[simp] theorem State.raise_tx (s : State) (k : ErrKind) : (s.raise k).tx = s.tx := rfl
@[simp] theorem State.raise_err (s : State) (k : ErrKind) : (s.raise k).err = some k := rfl
@[simp] theorem State.raise_calls (s : State) (k : ErrKind) : (s.raise k).calls = s.calls := rfl
@[simp] theorem State.raise_img (s : State) (k : ErrKind) : (s.raise k).img = s.img := rfl
@[simp] theorem State.raise_fnOut (s : State) (k : ErrKind) : (s.raise k).fnOut = s.fnOut := rfl

/-! `State.called` -/

@[simp] theorem State.called_cfg (s : State) (c : HandlerCall) : (s.called c).cfg = s.cfg := rfl
@[simp] theorem State.called_rx (s : State) (c : HandlerCall) : (s.called c).rx = s.rx := rfl
@[simp] theorem State.called_sess (s : State) (c : HandlerCall) : (s.called c).sess = s.sess := rfl
@[simp] theorem State.called_image (s : State) (c : HandlerCall) : (s.called c).image = s.image := rfl
@[simp] theorem State.called_inbox (s : State) (c : HandlerCall) : (s.called c).inbox = s.inbox := rfl
@[simp] theorem State.called_drawIn (s : State) (c : HandlerCall) : (s.called c).drawIn = s.drawIn := rfl
@[simp] theorem State.called_statusIn (s : State) (c : HandlerCall) : (s.called c).statusIn = s.statusIn := rfl
@[simp] theorem State.called_replyIn (s : State) (c : HandlerCall) : (s.called c).replyIn = s.replyIn := rfl
@[simp] theorem State.called_freeIdx (s : State) (c : HandlerCall) : (s.called c).freeIdx = s.freeIdx := rfl
@[simp] theorem State.called_tx (s : State) (c : HandlerCall) : (s.called c).tx = s.tx := rfl
@[simp] theorem State.called_err (s : State) (c : HandlerCall) : (s.called c).err = s.err := rfl
@[simp] theorem State.called_calls (s : State) (c : HandlerCall) : (s.called c).calls = s.calls ++ [c] := rfl
@[simp] theorem State.called_img (s : State) (c : HandlerCall) : (s.called c).img = s.img := rfl
@[simp] theorem State.called_fnOut (s : State) (c : HandlerCall) : (s.called c).fnOut = s.fnOut := rfl

/-! `State.lockSession` -/

@[simp] theorem State.lockSession_cfg (s : State) : (s.lockSession).cfg = s.cfg := rfl
@[simp] theorem State.lockSession_rx (s : State) : (s.lockSession).rx = s.rx := rfl
@[simp] theorem State.lockSession_sess (s : State) : (s.lockSession).sess = .locked := rfl
@[simp] theorem State.lockSession_image (s : State) : (s.lockSession).image = s.image := rfl
@[simp] theorem State.lockSession_inbox (s : State) : (s.lockSession).inbox = s.inbox := rfl
@[simp] theorem State.lockSession_drawIn (s : State) : (s.lockSession).drawIn = s.drawIn := rfl
@[simp] theorem State.lockSession_statusIn (s : State) : (s.lockSession).statusIn = s.statusIn := rfl
@[simp] theorem State.lockSession_replyIn (s : State) : (s.lockSession).replyIn = s.replyIn := rfl
@[simp] theorem State.lockSession_freeIdx (s : State) : (s.lockSession).freeIdx = s.freeIdx := rfl
@[simp] theorem State.lockSession_tx (s : State) : (s.lockSession).tx = s.tx := rfl
@[simp] theorem State.lockSession_err (s : State) : (s.lockSession).err = s.err := rfl
@[simp] theorem State.lockSession_calls (s : State) : (s.lockSession).calls = s.calls := rfl
@[simp] theorem State.lockSession_img (s : State) : (s.lockSession).img = s.img := rfl
@[simp] theorem State.lockSession_fnOut (s : State) : (s.lockSession).fnOut = s.fnOut := rfl

/-! `State.resetDecoder` -/

@[simp] theorem State.resetDecoder_cfg (s : State) : (s.resetDecoder).cfg = s.cfg := rfl
@[simp] theorem State.resetDecoder_rx (s : State) : (s.resetDecoder).rx = .waitDevice := rfl
@[simp] theorem State.resetDecoder_sess (s : State) : (s.resetDecoder).sess = s.sess := rfl
@[simp] theorem State.resetDecoder_image (s : State) : (s.resetDecoder).image = s.image := rfl
@[simp] theorem State.resetDecoder_inbox (s : State) : (s.resetDecoder).inbox = s.inbox := rfl
@[simp] theorem State.resetDecoder_drawIn (s : State) : (s.resetDecoder).drawIn = s.drawIn := rfl
@[simp] theorem State.resetDecoder_statusIn (s : State) : (s.resetDecoder).statusIn = s.statusIn := rfl
@[simp] theorem State.resetDecoder_replyIn (s : State) : (s.resetDecoder).replyIn = s.replyIn := rfl
@[simp] theorem State.resetDecoder_freeIdx (s : State) : (s.resetDecoder).freeIdx = s.freeIdx := rfl
@[simp] theorem State.resetDecoder_tx (s : State) : (s.resetDecoder).tx = s.tx := rfl
@[simp] theorem State.resetDecoder_err (s : State) : (s.resetDecoder).err = s.err := rfl
@[simp] theorem State.resetDecoder_calls (s : State) : (s.resetDecoder).calls = s.calls := rfl
@[simp] theorem State.resetDecoder_img (s : State) : (s.resetDecoder).img = s.img := rfl
@[simp] theorem State.resetDecoder_fnOut (s : State) : (s.resetDecoder).fnOut = s.fnOut := rfl

/-! `State.resetBlock` -/

@[simp] theorem State.resetBlock_cfg (s : State) : (s.resetBlock).cfg = s.cfg := rfl
@[simp] theorem State.resetBlock_rx (s : State) : (s.resetBlock).rx = .waitDevice := rfl
@[simp] theorem State.resetBlock_sess (s : State) : (s.resetBlock).sess = .locked := rfl
@[simp] theorem State.resetBlock_image (s : State) : (s.resetBlock).image = s.image := rfl
@[simp] theorem State.resetBlock_inbox (s : State) : (s.resetBlock).inbox = s.inbox := rfl
@[simp] theorem State.resetBlock_drawIn (s : State) : (s.resetBlock).drawIn = s.drawIn := rfl
@[simp] theorem State.resetBlock_statusIn (s : State) : (s.resetBlock).statusIn = s.statusIn := rfl
@[simp] theorem State.resetBlock_replyIn (s : State) : (s.resetBlock).replyIn = s.replyIn := rfl
@[simp] theorem State.resetBlock_freeIdx (s : State) : (s.resetBlock).freeIdx = s.freeIdx := rfl
@[simp] theorem State.resetBlock_tx (s : State) : (s.resetBlock).tx = s.tx := rfl
@[simp] theorem State.resetBlock_err (s : State) : (s.resetBlock).err = s.err := rfl
@[simp] theorem State.resetBlock_calls (s : State) : (s.resetBlock).calls = s.calls := rfl
@[simp] theorem State.resetBlock_img (s : State) : (s.resetBlock).img = s.img := rfl
@[simp] theorem State.resetBlock_fnOut (s : State) : (s.resetBlock).fnOut = s.fnOut := rfl

/-! `State.served` -/

@[simp] theorem State.served_cfg (s : State) (reqs : List FnRequest) : (s.served reqs).cfg = s.cfg := rfl
@[simp] theorem State.served_rx (s : State) (reqs : List FnRequest) : (s.served reqs).rx = s.rx := rfl
@[simp] theorem State.served_sess (s : State) (reqs : List FnRequest) : (s.served reqs).sess = s.sess := rfl
@[simp] theorem State.served_image (s : State) (reqs : List FnRequest) : (s.served reqs).image = s.image.writeAll (writesOf s.cfg reqs) := rfl
@[simp] theorem State.served_inbox (s : State) (reqs : List FnRequest) : (s.served reqs).inbox = s.inbox := rfl
@[simp] theorem State.served_drawIn (s : State) (reqs : List FnRequest) : (s.served reqs).drawIn = s.drawIn := rfl
@[simp] theorem State.served_statusIn (s : State) (reqs : List FnRequest) : (s.served reqs).statusIn = s.statusIn := rfl
@[simp] theorem State.served_replyIn (s : State) (reqs : List FnRequest) : (s.served reqs).replyIn = s.replyIn := rfl
@[simp] theorem State.served_freeIdx (s : State) (reqs : List FnRequest) : (s.served reqs).freeIdx = s.freeIdx := rfl
@[simp] theorem State.served_tx (s : State) (reqs : List FnRequest) : (s.served reqs).tx = s.tx := rfl
@[simp] theorem State.served_err (s : State) (reqs : List FnRequest) : (s.served reqs).err = (firstKind (answersTo s.cfg reqs)).or s.err := rfl
@[simp] theorem State.served_calls (s : State) (reqs : List FnRequest) : (s.served reqs).calls = s.calls := rfl
@[simp] theorem State.served_img (s : State) (reqs : List FnRequest) : (s.served reqs).img = s.img ++ writesOf s.cfg reqs := rfl
@[simp] theorem State.served_fnOut (s : State) (reqs : List FnRequest) : (s.served reqs).fnOut = s.fnOut ++ answersTo s.cfg reqs := rfl

/-! `State.begun` -/

@[simp] theorem State.begun_cfg (s : State) (rest : List Input) : (s.begun rest).cfg = s.cfg := rfl
@[simp] theorem State.begun_rx (s : State) (rest : List Input) : (s.begun rest).rx = s.rx := rfl
@[simp] theorem State.begun_sess (s : State) (rest : List Input) : (s.begun rest).sess = s.sess := rfl
@[simp] theorem State.begun_image (s : State) (rest : List Input) : (s.begun rest).image = s.image := rfl
@[simp] theorem State.begun_inbox (s : State) (rest : List Input) : (s.begun rest).inbox = rest := rfl
@[simp] theorem State.begun_drawIn (s : State) (rest : List Input) : (s.begun rest).drawIn = s.drawIn := rfl
@[simp] theorem State.begun_statusIn (s : State) (rest : List Input) : (s.begun rest).statusIn = s.statusIn := rfl
@[simp] theorem State.begun_replyIn (s : State) (rest : List Input) : (s.begun rest).replyIn = s.replyIn := rfl
@[simp] theorem State.begun_freeIdx (s : State) (rest : List Input) : (s.begun rest).freeIdx = s.freeIdx := rfl
@[simp] theorem State.begun_tx (s : State) (rest : List Input) : (s.begun rest).tx = s.tx := rfl
@[simp] theorem State.begun_err (s : State) (rest : List Input) : (s.begun rest).err = none := rfl
@[simp] theorem State.begun_calls (s : State) (rest : List Input) : (s.begun rest).calls = s.calls := rfl
@[simp] theorem State.begun_img (s : State) (rest : List Input) : (s.begun rest).img = s.img := rfl
@[simp] theorem State.begun_fnOut (s : State) (rest : List Input) : (s.begun rest).fnOut = [] := rfl

/-! `State.afterDraw` -/

@[simp] theorem State.afterDraw_cfg (s : State) : (s.afterDraw).cfg = s.cfg := by unfold State.afterDraw; split <;> simp_all
@[simp] theorem State.afterDraw_rx (s : State) : (s.afterDraw).rx = s.rx := by unfold State.afterDraw; split <;> simp_all
@[simp] theorem State.afterDraw_sess (s : State) : (s.afterDraw).sess = s.sess := by unfold State.afterDraw; split <;> simp_all
@[simp] theorem State.afterDraw_image (s : State) : (s.afterDraw).image = s.image := by unfold State.afterDraw; split <;> simp_all
@[simp] theorem State.afterDraw_inbox (s : State) : (s.afterDraw).inbox = s.inbox := by unfold State.afterDraw; split <;> simp_all
@[simp] theorem State.afterDraw_drawIn (s : State) : (s.afterDraw).drawIn = s.drawIn.tail := by unfold State.afterDraw; split <;> simp_all
@[simp] theorem State.afterDraw_statusIn (s : State) : (s.afterDraw).statusIn = s.statusIn := by unfold State.afterDraw; split <;> simp_all
@[simp] theorem State.afterDraw_replyIn (s : State) : (s.afterDraw).replyIn = s.replyIn := by unfold State.afterDraw; split <;> simp_all
@[simp] theorem State.afterDraw_tx (s : State) : (s.afterDraw).tx = s.tx := by unfold State.afterDraw; split <;> simp_all
@[simp] theorem State.afterDraw_err (s : State) : (s.afterDraw).err = s.err := by unfold State.afterDraw; split <;> simp_all
@[simp] theorem State.afterDraw_calls (s : State) : (s.afterDraw).calls = s.calls := by unfold State.afterDraw; split <;> simp_all
@[simp] theorem State.afterDraw_img (s : State) : (s.afterDraw).img = s.img := by unfold State.afterDraw; split <;> simp_all
@[simp] theorem State.afterDraw_fnOut (s : State) : (s.afterDraw).fnOut = s.fnOut := by unfold State.afterDraw; split <;> simp_all

/-! `State.afterStatus` -/

@[simp] theorem State.afterStatus_cfg (s : State) : (s.afterStatus).cfg = s.cfg := by unfold State.afterStatus; split <;> simp_all
@[simp] theorem State.afterStatus_rx (s : State) : (s.afterStatus).rx = s.rx := by unfold State.afterStatus; split <;> simp_all
@[simp] theorem State.afterStatus_sess (s : State) : (s.afterStatus).sess = s.sess := by unfold State.afterStatus; split <;> simp_all
@[simp] theorem State.afterStatus_image (s : State) : (s.afterStatus).image = s.image := by unfold State.afterStatus; split <;> simp_all
@[simp] theorem State.afterStatus_inbox (s : State) : (s.afterStatus).inbox = s.inbox := by unfold State.afterStatus; split <;> simp_all
@[simp] theorem State.afterStatus_drawIn (s : State) : (s.afterStatus).drawIn = s.drawIn := by unfold State.afterStatus; split <;> simp_all
@[simp] theorem State.afterStatus_statusIn (s : State) : (s.afterStatus).statusIn = s.statusIn.tail := by unfold State.afterStatus; split <;> simp_all
@[simp] theorem State.afterStatus_replyIn (s : State) : (s.afterStatus).replyIn = s.replyIn := by unfold State.afterStatus; split <;> simp_all
@[simp] theorem State.afterStatus_tx (s : State) : (s.afterStatus).tx = s.tx := by unfold State.afterStatus; split <;> simp_all
@[simp] theorem State.afterStatus_err (s : State) : (s.afterStatus).err = s.err := by unfold State.afterStatus; split <;> simp_all
@[simp] theorem State.afterStatus_calls (s : State) : (s.afterStatus).calls = s.calls := by unfold State.afterStatus; split <;> simp_all
@[simp] theorem State.afterStatus_img (s : State) : (s.afterStatus).img = s.img := by unfold State.afterStatus; split <;> simp_all
@[simp] theorem State.afterStatus_fnOut (s : State) : (s.afterStatus).fnOut = s.fnOut := by unfold State.afterStatus; split <;> simp_all

/-! `State.afterReply` -/

@[simp] theorem State.afterReply_cfg (s : State) : (s.afterReply).cfg = s.cfg := by unfold State.afterReply; split <;> simp_all
@[simp] theorem State.afterReply_rx (s : State) : (s.afterReply).rx = s.rx := by unfold State.afterReply; split <;> simp_all
@[simp] theorem State.afterReply_sess (s : State) : (s.afterReply).sess = s.sess := by unfold State.afterReply; split <;> simp_all
@[simp] theorem State.afterReply_image (s : State) : (s.afterReply).image = s.image := by unfold State.afterReply; split <;> simp_all
@[simp] theorem State.afterReply_inbox (s : State) : (s.afterReply).inbox = s.inbox := by unfold State.afterReply; split <;> simp_all
@[simp] theorem State.afterReply_drawIn (s : State) : (s.afterReply).drawIn = s.drawIn := by unfold State.afterReply; split <;> simp_all
@[simp] theorem State.afterReply_statusIn (s : State) : (s.afterReply).statusIn = s.statusIn := by unfold State.afterReply; split <;> simp_all
@[simp] theorem State.afterReply_replyIn (s : State) : (s.afterReply).replyIn = s.replyIn.tail := by unfold State.afterReply; split <;> simp_all
@[simp] theorem State.afterReply_tx (s : State) : (s.afterReply).tx = s.tx := by unfold State.afterReply; split <;> simp_all
@[simp] theorem State.afterReply_err (s : State) : (s.afterReply).err = s.err := by unfold State.afterReply; split <;> simp_all
@[simp] theorem State.afterReply_calls (s : State) : (s.afterReply).calls = s.calls := by unfold State.afterReply; split <;> simp_all
@[simp] theorem State.afterReply_img (s : State) : (s.afterReply).img = s.img := by unfold State.afterReply; split <;> simp_all
@[simp] theorem State.afterReply_fnOut (s : State) : (s.afterReply).fnOut = s.fnOut := by unfold State.afterReply; split <;> simp_all

/-! `State.issueSeed` -/

@[simp] theorem State.issueSeed_cfg (s : State) : (s.issueSeed).cfg = s.cfg := by simp [State.issueSeed]
@[simp] theorem State.issueSeed_rx (s : State) : (s.issueSeed).rx = s.rx := by simp [State.issueSeed]
@[simp] theorem State.issueSeed_sess (s : State) : (s.issueSeed).sess = .seedIssued (highByte s.nextDraw) (lowByte s.nextDraw) := by simp [State.issueSeed]
@[simp] theorem State.issueSeed_image (s : State) : (s.issueSeed).image = s.image := by simp [State.issueSeed]
@[simp] theorem State.issueSeed_inbox (s : State) : (s.issueSeed).inbox = s.inbox := by simp [State.issueSeed]
@[simp] theorem State.issueSeed_drawIn (s : State) : (s.issueSeed).drawIn = s.drawIn.tail := by simp [State.issueSeed]
@[simp] theorem State.issueSeed_statusIn (s : State) : (s.issueSeed).statusIn = s.statusIn := by simp [State.issueSeed]
@[simp] theorem State.issueSeed_replyIn (s : State) : (s.issueSeed).replyIn = s.replyIn := by simp [State.issueSeed]
@[simp] theorem State.issueSeed_tx (s : State) : (s.issueSeed).tx = s.tx := by simp [State.issueSeed]
@[simp] theorem State.issueSeed_err (s : State) : (s.issueSeed).err = s.err := by simp [State.issueSeed]
@[simp] theorem State.issueSeed_calls (s : State) : (s.issueSeed).calls = s.calls := by simp [State.issueSeed]
@[simp] theorem State.issueSeed_img (s : State) : (s.issueSeed).img = s.img := by simp [State.issueSeed]
@[simp] theorem State.issueSeed_fnOut (s : State) : (s.issueSeed).fnOut = s.fnOut := by simp [State.issueSeed]

/-! `State.transmit` -/

@[simp] theorem State.transmit_cfg (s : State) (raised : Option ErrKind) (dev : Byte) (mode : Byte) (payload : List Byte) : (s.transmit raised dev mode payload).cfg = s.cfg := by unfold State.transmit; split <;> rfl
@[simp] theorem State.transmit_rx (s : State) (raised : Option ErrKind) (dev : Byte) (mode : Byte) (payload : List Byte) : (s.transmit raised dev mode payload).rx = s.rx := by unfold State.transmit; split <;> rfl
@[simp] theorem State.transmit_sess (s : State) (raised : Option ErrKind) (dev : Byte) (mode : Byte) (payload : List Byte) : (s.transmit raised dev mode payload).sess = s.sess := by unfold State.transmit; split <;> rfl
@[simp] theorem State.transmit_image (s : State) (raised : Option ErrKind) (dev : Byte) (mode : Byte) (payload : List Byte) : (s.transmit raised dev mode payload).image = s.image := by unfold State.transmit; split <;> rfl
@[simp] theorem State.transmit_inbox (s : State) (raised : Option ErrKind) (dev : Byte) (mode : Byte) (payload : List Byte) : (s.transmit raised dev mode payload).inbox = s.inbox := by unfold State.transmit; split <;> rfl
@[simp] theorem State.transmit_drawIn (s : State) (raised : Option ErrKind) (dev : Byte) (mode : Byte) (payload : List Byte) : (s.transmit raised dev mode payload).drawIn = s.drawIn := by unfold State.transmit; split <;> rfl
@[simp] theorem State.transmit_statusIn (s : State) (raised : Option ErrKind) (dev : Byte) (mode : Byte) (payload : List Byte) : (s.transmit raised dev mode payload).statusIn = s.statusIn := by unfold State.transmit; split <;> rfl
@[simp] theorem State.transmit_replyIn (s : State) (raised : Option ErrKind) (dev : Byte) (mode : Byte) (payload : List Byte) : (s.transmit raised dev mode payload).replyIn = s.replyIn := by unfold State.transmit; split <;> rfl
@[simp] theorem State.transmit_freeIdx (s : State) (raised : Option ErrKind) (dev : Byte) (mode : Byte) (payload : List Byte) : (s.transmit raised dev mode payload).freeIdx = s.freeIdx := by unfold State.transmit; split <;> rfl
@[simp] theorem State.transmit_calls (s : State) (raised : Option ErrKind) (dev : Byte) (mode : Byte) (payload : List Byte) : (s.transmit raised dev mode payload).calls = s.calls := by unfold State.transmit; split <;> rfl
@[simp] theorem State.transmit_img (s : State) (raised : Option ErrKind) (dev : Byte) (mode : Byte) (payload : List Byte) : (s.transmit raised dev mode payload).img = s.img := by unfold State.transmit; split <;> rfl
@[simp] theorem State.transmit_fnOut (s : State) (raised : Option ErrKind) (dev : Byte) (mode : Byte) (payload : List Byte) : (s.transmit raised dev mode payload).fnOut = s.fnOut := by unfold State.transmit; split <;> rfl

/-! `State.sendRejected` -/

@[simp] theorem State.sendRejected_cfg (s : State) (raised : Option ErrKind) (dev : Byte) (mode : Byte) : (s.sendRejected raised dev mode).cfg = s.cfg := by simp [State.sendRejected]
@[simp] theorem State.sendRejected_rx (s : State) (raised : Option ErrKind) (dev : Byte) (mode : Byte) : (s.sendRejected raised dev mode).rx = s.rx := by simp [State.sendRejected]
@[simp] theorem State.sendRejected_sess (s : State) (raised : Option ErrKind) (dev : Byte) (mode : Byte) : (s.sendRejected raised dev mode).sess = s.sess := by simp [State.sendRejected]
@[simp] theorem State.sendRejected_image (s : State) (raised : Option ErrKind) (dev : Byte) (mode : Byte) : (s.sendRejected raised dev mode).image = s.image := by simp [State.sendRejected]
@[simp] theorem State.sendRejected_inbox (s : State) (raised : Option ErrKind) (dev : Byte) (mode : Byte) : (s.sendRejected raised dev mode).inbox = s.inbox := by simp [State.sendRejected]
@[simp] theorem State.sendRejected_drawIn (s : State) (raised : Option ErrKind) (dev : Byte) (mode : Byte) : (s.sendRejected raised dev mode).drawIn = s.drawIn := by simp [State.sendRejected]
@[simp] theorem State.sendRejected_statusIn (s : State) (raised : Option ErrKind) (dev : Byte) (mode : Byte) : (s.sendRejected raised dev mode).statusIn = s.statusIn := by simp [State.sendRejected]
@[simp] theorem State.sendRejected_replyIn (s : State) (raised : Option ErrKind) (dev : Byte) (mode : Byte) : (s.sendRejected raised dev mode).replyIn = s.replyIn := by simp [State.sendRejected]
@[simp] theorem State.sendRejected_freeIdx (s : State) (raised : Option ErrKind) (dev : Byte) (mode : Byte) : (s.sendRejected raised dev mode).freeIdx = s.freeIdx := by simp [State.sendRejected]
@[simp] theorem State.sendRejected_calls (s : State) (raised : Option ErrKind) (dev : Byte) (mode : Byte) : (s.sendRejected raised dev mode).calls = s.calls := by simp [State.sendRejected]
@[simp] theorem State.sendRejected_img (s : State) (raised : Option ErrKind) (dev : Byte) (mode : Byte) : (s.sendRejected raised dev mode).img = s.img := by simp [State.sendRejected]
@[simp] theorem State.sendRejected_fnOut (s : State) (raised : Option ErrKind) (dev : Byte) (mode : Byte) : (s.sendRejected raised dev mode).fnOut = s.fnOut := by simp [State.sendRejected]

/-! `State.sendFail` -/

@[simp] theorem State.sendFail_cfg (s : State) (raised : Option ErrKind) (dev : Byte) (mode : Byte) : (s.sendFail raised dev mode).cfg = s.cfg := by simp [State.sendFail]
@[simp] theorem State.sendFail_rx (s : State) (raised : Option ErrKind) (dev : Byte) (mode : Byte) : (s.sendFail raised dev mode).rx = s.rx := by simp [State.sendFail]
@[simp] theorem State.sendFail_sess (s : State) (raised : Option ErrKind) (dev : Byte) (mode : Byte) : (s.sendFail raised dev mode).sess = s.sess := by simp [State.sendFail]
@[simp] theorem State.sendFail_image (s : State) (raised : Option ErrKind) (dev : Byte) (mode : Byte) : (s.sendFail raised dev mode).image = s.image := by simp [State.sendFail]
@[simp] theorem State.sendFail_inbox (s : State) (raised : Option ErrKind) (dev : Byte) (mode : Byte) : (s.sendFail raised dev mode).inbox = s.inbox := by simp [State.sendFail]
@[simp] theorem State.sendFail_drawIn (s : State) (raised : Option ErrKind) (dev : Byte) (mode : Byte) : (s.sendFail raised dev mode).drawIn = s.drawIn := by simp [State.sendFail]
@[simp] theorem State.sendFail_statusIn (s : State) (raised : Option ErrKind) (dev : Byte) (mode : Byte) : (s.sendFail raised dev mode).statusIn = s.statusIn := by simp [State.sendFail]
@[simp] theorem State.sendFail_replyIn (s : State) (raised : Option ErrKind) (dev : Byte) (mode : Byte) : (s.sendFail raised dev mode).replyIn = s.replyIn := by simp [State.sendFail]
@[simp] theorem State.sendFail_freeIdx (s : State) (raised : Option ErrKind) (dev : Byte) (mode : Byte) : (s.sendFail raised dev mode).freeIdx = s.freeIdx := by simp [State.sendFail]
@[simp] theorem State.sendFail_calls (s : State) (raised : Option ErrKind) (dev : Byte) (mode : Byte) : (s.sendFail raised dev mode).calls = s.calls := by simp [State.sendFail]
@[simp] theorem State.sendFail_img (s : State) (raised : Option ErrKind) (dev : Byte) (mode : Byte) : (s.sendFail raised dev mode).img = s.img := by simp [State.sendFail]
@[simp] theorem State.sendFail_fnOut (s : State) (raised : Option ErrKind) (dev : Byte) (mode : Byte) : (s.sendFail raised dev mode).fnOut = s.fnOut := by simp [State.sendFail]

/-! `State.unknownMode` -/

@[simp] theorem State.unknownMode_cfg (s : State) (dev : Byte) (mode : Byte) : (s.unknownMode dev mode).cfg = s.cfg := by simp [State.unknownMode]
@[simp] theorem State.unknownMode_rx (s : State) (dev : Byte) (mode : Byte) : (s.unknownMode dev mode).rx = s.rx := by simp [State.unknownMode]
@[simp] theorem State.unknownMode_sess (s : State) (dev : Byte) (mode : Byte) : (s.unknownMode dev mode).sess = s.sess := by simp [State.unknownMode]
@[simp] theorem State.unknownMode_image (s : State) (dev : Byte) (mode : Byte) : (s.unknownMode dev mode).image = s.image := by simp [State.unknownMode]
@[simp] theorem State.unknownMode_inbox (s : State) (dev : Byte) (mode : Byte) : (s.unknownMode dev mode).inbox = s.inbox := by simp [State.unknownMode]
@[simp] theorem State.unknownMode_drawIn (s : State) (dev : Byte) (mode : Byte) : (s.unknownMode dev mode).drawIn = s.drawIn := by simp [State.unknownMode]
@[simp] theorem State.unknownMode_statusIn (s : State) (dev : Byte) (mode : Byte) : (s.unknownMode dev mode).statusIn = s.statusIn := by simp [State.unknownMode]
@[simp] theorem State.unknownMode_replyIn (s : State) (dev : Byte) (mode : Byte) : (s.unknownMode dev mode).replyIn = s.replyIn := by simp [State.unknownMode]
@[simp] theorem State.unknownMode_freeIdx (s : State) (dev : Byte) (mode : Byte) : (s.unknownMode dev mode).freeIdx = s.freeIdx := by simp [State.unknownMode]
@[simp] theorem State.unknownMode_calls (s : State) (dev : Byte) (mode : Byte) : (s.unknownMode dev mode).calls = s.calls := by simp [State.unknownMode]
@[simp] theorem State.unknownMode_img (s : State) (dev : Byte) (mode : Byte) : (s.unknownMode dev mode).img = s.img := by simp [State.unknownMode]
@[simp] theorem State.unknownMode_fnOut (s : State) (dev : Byte) (mode : Byte) : (s.unknownMode dev mode).fnOut = s.fnOut := by simp [State.unknownMode]

/-! `State.unauthorized` -/

@[simp] theorem State.unauthorized_cfg (s : State) (dev : Byte) (mode : Byte) : (s.unauthorized dev mode).cfg = s.cfg := by simp [State.unauthorized]
@[simp] theorem State.unauthorized_rx (s : State) (dev : Byte) (mode : Byte) : (s.unauthorized dev mode).rx = s.rx := by simp [State.unauthorized]
@[simp] theorem State.unauthorized_sess (s : State) (dev : Byte) (mode : Byte) : (s.unauthorized dev mode).sess = s.sess := by simp [State.unauthorized]
@[simp] theorem State.unauthorized_image (s : State) (dev : Byte) (mode : Byte) : (s.unauthorized dev mode).image = s.image := by simp [State.unauthorized]
@[simp] theorem State.unauthorized_inbox (s : State) (dev : Byte) (mode : Byte) : (s.unauthorized dev mode).inbox = s.inbox := by simp [State.unauthorized]
@[simp] theorem State.unauthorized_drawIn (s : State) (dev : Byte) (mode : Byte) : (s.unauthorized dev mode).drawIn = s.drawIn := by simp [State.unauthorized]
@[simp] theorem State.unauthorized_statusIn (s : State) (dev : Byte) (mode : Byte) : (s.unauthorized dev mode).statusIn = s.statusIn := by simp [State.unauthorized]
@[simp] theorem State.unauthorized_replyIn (s : State) (dev : Byte) (mode : Byte) : (s.unauthorized dev mode).replyIn = s.replyIn := by simp [State.unauthorized]
@[simp] theorem State.unauthorized_freeIdx (s : State) (dev : Byte) (mode : Byte) : (s.unauthorized dev mode).freeIdx = s.freeIdx := by simp [State.unauthorized]
@[simp] theorem State.unauthorized_calls (s : State) (dev : Byte) (mode : Byte) : (s.unauthorized dev mode).calls = s.calls := by simp [State.unauthorized]
@[simp] theorem State.unauthorized_img (s : State) (dev : Byte) (mode : Byte) : (s.unauthorized dev mode).img = s.img := by simp [State.unauthorized]
@[simp] theorem State.unauthorized_fnOut (s : State) (dev : Byte) (mode : Byte) : (s.unauthorized dev mode).fnOut = s.fnOut := by simp [State.unauthorized]

/-! `State.replyWith` -/

@[simp] theorem State.replyWith_cfg (s : State) (raised : Option ErrKind) (dev : Byte) (mode : Byte) (r : Option (List Byte)) : (s.replyWith raised dev mode r).cfg = s.cfg := by unfold State.replyWith; split <;> simp
@[simp] theorem State.replyWith_rx (s : State) (raised : Option ErrKind) (dev : Byte) (mode : Byte) (r : Option (List Byte)) : (s.replyWith raised dev mode r).rx = s.rx := by unfold State.replyWith; split <;> simp
@[simp] theorem State.replyWith_sess (s : State) (raised : Option ErrKind) (dev : Byte) (mode : Byte) (r : Option (List Byte)) : (s.replyWith raised dev mode r).sess = s.sess := by unfold State.replyWith; split <;> simp
@[simp] theorem State.replyWith_image (s : State) (raised : Option ErrKind) (dev : Byte) (mode : Byte) (r : Option (List Byte)) : (s.replyWith raised dev mode r).image = s.image := by unfold State.replyWith; split <;> simp
@[simp] theorem State.replyWith_inbox (s : State) (raised : Option ErrKind) (dev : Byte) (mode : Byte) (r : Option (List Byte)) : (s.replyWith raised dev mode r).inbox = s.inbox := by unfold State.replyWith; split <;> simp
@[simp] theorem State.replyWith_drawIn (s : State) (raised : Option ErrKind) (dev : Byte) (mode : Byte) (r : Option (List Byte)) : (s.replyWith raised dev mode r).drawIn = s.drawIn := by unfold State.replyWith; split <;> simp
@[simp] theorem State.replyWith_statusIn (s : State) (raised : Option ErrKind) (dev : Byte) (mode : Byte) (r : Option (List Byte)) : (s.replyWith raised dev mode r).statusIn = s.statusIn := by unfold State.replyWith; split <;> simp
@[simp] theorem State.replyWith_replyIn (s : State) (raised : Option ErrKind) (dev : Byte) (mode : Byte) (r : Option (List Byte)) : (s.replyWith raised dev mode r).replyIn = s.replyIn := by unfold State.replyWith; split <;> simp
@[simp] theorem State.replyWith_freeIdx (s : State) (raised : Option ErrKind) (dev : Byte) (mode : Byte) (r : Option (List Byte)) : (s.replyWith raised dev mode r).freeIdx = s.freeIdx := by unfold State.replyWith; split <;> simp
@[simp] theorem State.replyWith_calls (s : State) (raised : Option ErrKind) (dev : Byte) (mode : Byte) (r : Option (List Byte)) : (s.replyWith raised dev mode r).calls = s.calls := by unfold State.replyWith; split <;> simp
@[simp] theorem State.replyWith_img (s : State) (raised : Option ErrKind) (dev : Byte) (mode : Byte) (r : Option (List Byte)) : (s.replyWith raised dev mode r).img = s.img := by unfold State.replyWith; split <;> simp
@[simp] theorem State.replyWith_fnOut (s : State) (raised : Option ErrKind) (dev : Byte) (mode : Byte) (r : Option (List Byte)) : (s.replyWith raised dev mode r).fnOut = s.fnOut := by unfold State.replyWith; split <;> simp

/-! `State.callHandler` -/

@[simp] theorem State.callHandler_cfg (s : State) (c : HandlerCall) (reqs : List FnRequest) (dev : Byte) (mode : Byte) (r : Option (List Byte)) : (s.callHandler c reqs dev mode r).cfg = s.cfg := by simp [State.callHandler]
@[simp] theorem State.callHandler_rx (s : State) (c : HandlerCall) (reqs : List FnRequest) (dev : Byte) (mode : Byte) (r : Option (List Byte)) : (s.callHandler c reqs dev mode r).rx = s.rx := by simp [State.callHandler]
@[simp] theorem State.callHandler_sess (s : State) (c : HandlerCall) (reqs : List FnRequest) (dev : Byte) (mode : Byte) (r : Option (List Byte)) : (s.callHandler c reqs dev mode r).sess = s.sess := by simp [State.callHandler]
@[simp] theorem State.callHandler_image (s : State) (c : HandlerCall) (reqs : List FnRequest) (dev : Byte) (mode : Byte) (r : Option (List Byte)) : (s.callHandler c reqs dev mode r).image = s.image.writeAll (writesOf s.cfg reqs) := by simp [State.callHandler]
@[simp] theorem State.callHandler_inbox (s : State) (c : HandlerCall) (reqs : List FnRequest) (dev : Byte) (mode : Byte) (r : Option (List Byte)) : (s.callHandler c reqs dev mode r).inbox = s.inbox := by simp [State.callHandler]
@[simp] theorem State.callHandler_drawIn (s : State) (c : HandlerCall) (reqs : List FnRequest) (dev : Byte) (mode : Byte) (r : Option (List Byte)) : (s.callHandler c reqs dev mode r).drawIn = s.drawIn := by simp [State.callHandler]
@[simp] theorem State.callHandler_statusIn (s : State) (c : HandlerCall) (reqs : List FnRequest) (dev : Byte) (mode : Byte) (r : Option (List Byte)) : (s.callHandler c reqs dev mode r).statusIn = s.statusIn := by simp [State.callHandler]
@[simp] theorem State.callHandler_replyIn (s : State) (c : HandlerCall) (reqs : List FnRequest) (dev : Byte) (mode : Byte) (r : Option (List Byte)) : (s.callHandler c reqs dev mode r).replyIn = s.replyIn := by simp [State.callHandler]
@[simp] theorem State.callHandler_freeIdx (s : State) (c : HandlerCall) (reqs : List FnRequest) (dev : Byte) (mode : Byte) (r : Option (List Byte)) : (s.callHandler c reqs dev mode r).freeIdx = s.freeIdx := by simp [State.callHandler]
@[simp] theorem State.callHandler_calls (s : State) (c : HandlerCall) (reqs : List FnRequest) (dev : Byte) (mode : Byte) (r : Option (List Byte)) : (s.callHandler c reqs dev mode r).calls = s.calls ++ [c] := by simp [State.callHandler]
@[simp] theorem State.callHandler_img (s : State) (c : HandlerCall) (reqs : List FnRequest) (dev : Byte) (mode : Byte) (r : Option (List Byte)) : (s.callHandler c reqs dev mode r).img = s.img ++ writesOf s.cfg reqs := by simp [State.callHandler]
@[simp] theorem State.callHandler_fnOut (s : State) (c : HandlerCall) (reqs : List FnRequest) (dev : Byte) (mode : Byte) (r : Option (List Byte)) : (s.callHandler c reqs dev mode r).fnOut = s.fnOut ++ answersTo s.cfg reqs := by simp [State.callHandler]

/-! `State.forward` -/

@[simp] theorem State.forward_cfg (s : State) (h : Handler) (dev : Byte) (mode : Byte) (payload : List Byte) : (s.forward h dev mode payload).cfg = s.cfg := by simp [State.forward]
@[simp] theorem State.forward_rx (s : State) (h : Handler) (dev : Byte) (mode : Byte) (payload : List Byte) : (s.forward h dev mode payload).rx = s.rx := by simp [State.forward]
@[simp] theorem State.forward_sess (s : State) (h : Handler) (dev : Byte) (mode : Byte) (payload : List Byte) : (s.forward h dev mode payload).sess = s.sess := by simp [State.forward]
@[simp] theorem State.forward_image (s : State) (h : Handler) (dev : Byte) (mode : Byte) (payload : List Byte) : (s.forward h dev mode payload).image = s.image.writeAll (writesOf s.cfg s.nextReply.requests) := by simp [State.forward]
@[simp] theorem State.forward_inbox (s : State) (h : Handler) (dev : Byte) (mode : Byte) (payload : List Byte) : (s.forward h dev mode payload).inbox = s.inbox := by simp [State.forward]
@[simp] theorem State.forward_drawIn (s : State) (h : Handler) (dev : Byte) (mode : Byte) (payload : List Byte) : (s.forward h dev mode payload).drawIn = s.drawIn := by simp [State.forward]
@[simp] theorem State.forward_statusIn (s : State) (h : Handler) (dev : Byte) (mode : Byte) (payload : List Byte) : (s.forward h dev mode payload).statusIn = s.statusIn := by simp [State.forward]
@[simp] theorem State.forward_replyIn (s : State) (h : Handler) (dev : Byte) (mode : Byte) (payload : List Byte) : (s.forward h dev mode payload).replyIn = s.replyIn.tail := by simp [State.forward]
@[simp] theorem State.forward_calls (s : State) (h : Handler) (dev : Byte) (mode : Byte) (payload : List Byte) : (s.forward h dev mode payload).calls = s.calls ++ [.frame h dev mode payload] := by simp [State.forward]
@[simp] theorem State.forward_img (s : State) (h : Handler) (dev : Byte) (mode : Byte) (payload : List Byte) : (s.forward h dev mode payload).img = s.img ++ writesOf s.cfg s.nextReply.requests := by simp [State.forward]
@[simp] theorem State.forward_fnOut (s : State) (h : Handler) (dev : Byte) (mode : Byte) (payload : List Byte) : (s.forward h dev mode payload).fnOut = s.fnOut ++ answersTo s.cfg s.nextReply.requests := by simp [State.forward]

/-! `State.callOutput` -/

@[simp] theorem State.callOutput_cfg (s : State) (dev : Byte) (controlByte : Byte) : (s.callOutput dev controlByte).cfg = s.cfg := by simp [State.callOutput]
@[simp] theorem State.callOutput_rx (s : State) (dev : Byte) (controlByte : Byte) : (s.callOutput dev controlByte).rx = s.rx := by simp [State.callOutput]
@[simp] theorem State.callOutput_sess (s : State) (dev : Byte) (controlByte : Byte) : (s.callOutput dev controlByte).sess = s.sess := by simp [State.callOutput]
@[simp] theorem State.callOutput_image (s : State) (dev : Byte) (controlByte : Byte) : (s.callOutput dev controlByte).image = s.image.writeAll (writesOf s.cfg s.nextStatus.requests) := by simp [State.callOutput]
@[simp] theorem State.callOutput_inbox (s : State) (dev : Byte) (controlByte : Byte) : (s.callOutput dev controlByte).inbox = s.inbox := by simp [State.callOutput]
@[simp] theorem State.callOutput_drawIn (s : State) (dev : Byte) (controlByte : Byte) : (s.callOutput dev controlByte).drawIn = s.drawIn := by simp [State.callOutput]
@[simp] theorem State.callOutput_statusIn (s : State) (dev : Byte) (controlByte : Byte) : (s.callOutput dev controlByte).statusIn = s.statusIn.tail := by simp [State.callOutput]
@[simp] theorem State.callOutput_replyIn (s : State) (dev : Byte) (controlByte : Byte) : (s.callOutput dev controlByte).replyIn = s.replyIn := by simp [State.callOutput]
@[simp] theorem State.callOutput_calls (s : State) (dev : Byte) (controlByte : Byte) : (s.callOutput dev controlByte).calls = s.calls ++ [.output controlByte] := by simp [State.callOutput]
@[simp] theorem State.callOutput_img (s : State) (dev : Byte) (controlByte : Byte) : (s.callOutput dev controlByte).img = s.img ++ writesOf s.cfg s.nextStatus.requests := by simp [State.callOutput]
@[simp] theorem State.callOutput_fnOut (s : State) (dev : Byte) (controlByte : Byte) : (s.callOutput dev controlByte).fnOut = s.fnOut ++ answersTo s.cfg s.nextStatus.requests := by simp [State.callOutput]

/-! `State.gated` -/

@[simp] theorem State.gated_cfg (s : State) (h : Handler) (dev : Byte) (mode : Byte) (payload : List Byte) : (s.gated h dev mode payload).cfg = s.cfg := by unfold State.gated; split <;> simp
@[simp] theorem State.gated_rx (s : State) (h : Handler) (dev : Byte) (mode : Byte) (payload : List Byte) : (s.gated h dev mode payload).rx = s.rx := by unfold State.gated; split <;> simp
@[simp] theorem State.gated_sess (s : State) (h : Handler) (dev : Byte) (mode : Byte) (payload : List Byte) : (s.gated h dev mode payload).sess = s.sess := by unfold State.gated; split <;> simp
@[simp] theorem State.gated_inbox (s : State) (h : Handler) (dev : Byte) (mode : Byte) (payload : List Byte) : (s.gated h dev mode payload).inbox = s.inbox := by unfold State.gated; split <;> simp
@[simp] theorem State.gated_drawIn (s : State) (h : Handler) (dev : Byte) (mode : Byte) (payload : List Byte) : (s.gated h dev mode payload).drawIn = s.drawIn := by unfold State.gated; split <;> simp
@[simp] theorem State.gated_statusIn (s : State) (h : Handler) (dev : Byte) (mode : Byte) (payload : List Byte) : (s.gated h dev mode payload).statusIn = s.statusIn := by unfold State.gated; split <;> simp

end Machine
end Sys2Proof
end

