-- ==== Sys2Proof/Laws/Wire.lean ====
section
/-! SUPPORT. The checksum, the encoder and the decoder's automaton: one lemma per function that says what it gives. -/

namespace Sys2Proof

/-! The document's values (00_scope.md R8). -/

@[simp] theorem Config.document_knownIds : Config.document.knownIds = [0xF4#8, 0xF7#8, 0xF1#8, 0xF0#8, 0xF9#8] := rfl
@[simp] theorem Config.document_lenBias : Config.document.lenBias = 85 := rfl
@[simp] theorem Config.document_maxPayload : Config.document.maxPayload = 169 := rfl
@[simp] theorem Config.document_modes :
    Config.document.modes = [1#8, 2#8, 3#8, 4#8, 5#8, 6#8, 7#8, 8#8, 9#8, 10#8, 13#8] := rfl
@[simp] theorem Config.document_lenSeedRequest : Config.document.lenSeedRequest = 0x57#8 := rfl
@[simp] theorem Config.document_lenKeySubmit : Config.document.lenKeySubmit = 0x58#8 := rfl
@[simp] theorem Config.document_minLength : Config.document.minLength = 86 := rfl
@[simp] theorem Config.document_bankCode1 : Config.document.bankCode1 = 1#8 := rfl
@[simp] theorem Config.document_bankCode2 : Config.document.bankCode2 = 2#8 := rfl
@[simp] theorem Config.document_bankCode3 : Config.document.bankCode3 = 3#8 := rfl
@[simp] theorem Config.document_responseRejected : Config.document.responseRejected = 0xCC#8 := rfl
@[simp] theorem Config.document_responseFail : Config.document.responseFail = 0x55#8 := rfl
@[simp] theorem Config.document_resultAccepted : Config.document.resultAccepted = 0xAA#8 := rfl
@[simp] theorem Config.document_resultRejected : Config.document.resultRejected = 0xCC#8 := rfl
@[simp] theorem Config.document_keyConstant : Config.document.keyConstant = 37709 := rfl
@[simp] theorem Config.document_windowBase : Config.document.windowBase = 0x8000 := rfl
@[simp] theorem Config.document_bankBase1 : Config.document.bankBase1 = 0 := rfl
@[simp] theorem Config.document_bankBase2 : Config.document.bankBase2 = 0x10000 := rfl
@[simp] theorem Config.document_bankBase3 : Config.document.bankBase3 = 0x18000 := rfl
@[simp] theorem Config.document_patchBase : Config.document.patchBase = 0x5D00 := rfl
@[simp] theorem Config.document_patchLen : Config.document.patchLen = 0x300 := rfl

@[simp] theorem byteSum_nil : byteSum [] = 0 := rfl

@[simp] theorem byteSum_cons (b : Byte) (bs : List Byte) : byteSum (b :: bs) = b.toNat + byteSum bs := rfl

@[simp] theorem byteSum_append (s t : List Byte) : byteSum (s ++ t) = byteSum s + byteSum t := by
  induction s with
  | nil => simp
  | cons b s ih => simp [ih, Nat.add_assoc]

theorem checksum_toNat (bs : List Byte) : (checksum bs).toNat = (256 - byteSum bs % 256) % 256 := by
  simp only [checksum, BitVec.toNat_ofNat]
  omega

/-- A byte is the checksum of a sequence exactly when it completes the sum to 0 modulo 256. -/
theorem eq_checksum_iff (bs : List Byte) (b : Byte) : b = checksum bs ↔ (byteSum bs + b.toNat) % 256 = 0 := by
  rw [← BitVec.toNat_inj, checksum_toNat]
  have := b.isLt
  omega

theorem Config.Profile.minLength_eq (cfg : Config.Profile) : cfg.minLength = cfg.lenBias + 1 := rfl

theorem Config.Profile.fits_iff (cfg : Config.Profile) (n : Nat) :
    cfg.fits n = true ↔ n ≤ cfg.maxPayload ∧ cfg.lenBias + 1 + n ≤ 255 := by
  simp only [Config.Profile.fits, Bool.and_eq_true, decide_eq_true_eq]
  rfl

/-- With the document's values a frame holds at most 169 payload bytes (90_conflicts.md C1). -/
theorem Config.document_fits_iff (n : Nat) : Config.document.fits n = true ↔ n ≤ 169 := by
  rw [Config.Profile.fits_iff, Config.document_maxPayload, Config.document_lenBias]
  omega

theorem announced_eq (cfg : Config.Profile) (len : Byte) : announced cfg len = len.toNat - (cfg.lenBias + 1) := rfl

theorem lengthByteOf_eq (cfg : Config.Profile) (p : List Byte) :
    lengthByteOf cfg p = BitVec.ofNat 8 (cfg.lenBias + 1 + p.length) := rfl

theorem lengthByteOf_toNat {cfg : Config.Profile} {p : List Byte} (h : cfg.fits p.length = true) :
    (lengthByteOf cfg p).toNat = cfg.lenBias + 1 + p.length := by
  have := (cfg.fits_iff p.length).mp h
  simp only [lengthByteOf_eq, BitVec.toNat_ofNat]
  omega

theorem announced_lengthByteOf {cfg : Config.Profile} {p : List Byte} (h : cfg.fits p.length = true) :
    announced cfg (lengthByteOf cfg p) = p.length := by
  rw [announced_eq, lengthByteOf_toNat h]
  omega

/-- `ENCODE` of a payload that fits gives the frame, its last byte the checksum of the others. -/
theorem encodeFrame_of_fits {cfg : Config.Profile} (dev mode : Byte) {p : List Byte} (h : cfg.fits p.length = true) :
    encodeFrame cfg dev mode p = some (frameBody dev (lengthByteOf cfg p) mode p ++
      [checksum (frameBody dev (lengthByteOf cfg p) mode p)]) := by
  simp only [encodeFrame, if_pos h]

/-- `ENCODE` refuses a payload no frame can hold. -/
theorem encodeFrame_of_too_long {cfg : Config.Profile} (dev mode : Byte) {p : List Byte}
    (h : cfg.fits p.length = false) : encodeFrame cfg dev mode p = none := by
  simp [encodeFrame, h]

theorem encodeFrame_eq_some_iff (cfg : Config.Profile) (dev mode : Byte) (p f : List Byte) :
    encodeFrame cfg dev mode p = some f ↔ Machine.IsFrame cfg dev mode p f := by
  constructor
  · intro hf
    cases hp : cfg.fits p.length with
    | false =>
      rw [encodeFrame_of_too_long dev mode hp] at hf
      cases hf
    | true =>
      rw [encodeFrame_of_fits dev mode hp] at hf
      cases hf
      obtain ⟨h1, h2⟩ := (cfg.fits_iff p.length).mp hp
      refine ⟨h1, h2, checksum (frameBody dev (lengthByteOf cfg p) mode p), rfl, ?_⟩
      have := (eq_checksum_iff (frameBody dev (lengthByteOf cfg p) mode p) _).mp rfl
      simpa using this
  · rintro ⟨h1, h2, c, rfl, hs⟩
    rw [encodeFrame_of_fits dev mode ((cfg.fits_iff p.length).mpr ⟨h1, h2⟩)]
    have hc : c = checksum (frameBody dev (lengthByteOf cfg p) mode p) := by
      rw [eq_checksum_iff]
      simpa [frameBody, lengthByteOf_eq, Nat.add_assoc] using hs
    rw [← hc]
    rfl

/-- A frame of the claims is a frame the encoder gives, and so exists for every payload that fits. -/
theorem exists_isFrame {cfg : Config.Profile} (dev mode : Byte) {p : List Byte} (h : cfg.fits p.length = true) :
    ∃ f, encodeFrame cfg dev mode p = some f ∧ Machine.IsFrame cfg dev mode p f :=
  ⟨_, encodeFrame_of_fits dev mode h, (encodeFrame_eq_some_iff cfg dev mode p _).mp (encodeFrame_of_fits dev mode h)⟩

theorem isFrame_fits {cfg : Config.Profile} {dev mode : Byte} {p f : List Byte}
    (h : Machine.IsFrame cfg dev mode p f) : cfg.fits p.length = true :=
  (cfg.fits_iff p.length).mpr ⟨h.1, h.2.1⟩

theorem isFrame_eq {cfg : Config.Profile} {dev mode : Byte} {p f : List Byte}
    (h : Machine.IsFrame cfg dev mode p f) :
    f = frameBody dev (lengthByteOf cfg p) mode p ++ [checksum (frameBody dev (lengthByteOf cfg p) mode p)] := by
  have h1 := (encodeFrame_eq_some_iff cfg dev mode p f).mpr h
  rw [encodeFrame_of_fits dev mode (isFrame_fits h)] at h1
  exact (Option.some.inj h1).symm

/-- The decoder over a sequence followed by another. -/
theorem decodeStream_append (cfg : Config.Profile) (d : Decoder) (s t : List Byte) :
    decodeStream cfg d (s ++ t) =
      ((decodeStream cfg d s).1 ++ (decodeStream cfg (decodeStream cfg d s).2 t).1,
       (decodeStream cfg (decodeStream cfg d s).2 t).2) := by
  induction s generalizing d with
  | nil => simp [decodeStream]
  | cons b s ih => simp [decodeStream, ih, List.append_assoc]

/-- In WAIT_PAYLOAD, fewer bytes than are missing are stored and leave the decoder waiting. -/
theorem decodeStream_payload_short (cfg : Config.Profile) (dev len mode : Byte) (bytes pay : List Byte)
    (h : pay.length + bytes.length < announced cfg len) :
    decodeStream cfg (.waitPayload dev len mode pay) bytes = ([], .waitPayload dev len mode (pay ++ bytes)) := by
  induction bytes generalizing pay with
  | nil => simp [decodeStream]
  | cons b bs ih =>
    simp only [List.length_cons] at h
    have hne : ¬ (pay ++ [b]).length = announced cfg len := by simp; omega
    simp only [decodeStream, decoderStep, rxPayload, if_neg hne, RxOutcome.decoder, RxOutcome.report]
    rw [ih (pay ++ [b]) (by simp; omega)]
    simp

/-- In WAIT_PAYLOAD, exactly the missing bytes lead to WAIT_CHECKSUM with all of them stored. -/
theorem decodeStream_payload_full (cfg : Config.Profile) (dev len mode : Byte) (bytes pay : List Byte)
    (hpos : 0 < bytes.length) (h : pay.length + bytes.length = announced cfg len) :
    decodeStream cfg (.waitPayload dev len mode pay) bytes = ([], .waitChecksum dev len mode (pay ++ bytes)) := by
  induction bytes generalizing pay with
  | nil => simp at hpos
  | cons b bs ih =>
    simp only [List.length_cons] at h
    by_cases hbs : bs = []
    · subst hbs
      have he : (pay ++ [b]).length = announced cfg len := by simpa using h
      simp only [decodeStream, decoderStep, rxPayload, if_pos he, RxOutcome.decoder, RxOutcome.report]
      rfl
    · have hl : 0 < bs.length := List.length_pos_of_ne_nil hbs
      have hne : ¬ (pay ++ [b]).length = announced cfg len := by simp; omega
      simp only [decodeStream, decoderStep, rxPayload, if_neg hne, RxOutcome.decoder, RxOutcome.report]
      rw [ih (pay ++ [b]) hl (by simp; omega)]
      simp

/-- From WAIT_MODE, the mode byte and the announced payload lead to WAIT_CHECKSUM. -/
theorem decodeStream_mode_payload (cfg : Config.Profile) (dev len mode : Byte) (pay : List Byte)
    (h : pay.length = announced cfg len) :
    decodeStream cfg (.waitMode dev len) (mode :: pay) = ([], .waitChecksum dev len mode pay) := by
  by_cases hz : announced cfg len = 0
  · have : pay = [] := List.eq_nil_of_length_eq_zero (by omega)
    subst this
    simp [decodeStream, decoderStep, rxMode, hz, RxOutcome.decoder, RxOutcome.report]
  · have hp : 0 < pay.length := by omega
    simp only [decodeStream, decoderStep, rxMode, if_neg hz, RxOutcome.decoder, RxOutcome.report]
    rw [decodeStream_payload_full cfg dev len mode pay [] hp (by simpa using h)]
    simp

/-- From WAIT_DEVICE, a known id, a legal length byte, a mode and the announced payload lead to WAIT_CHECKSUM. -/
theorem decodeStream_to_checksum (cfg : Config.Profile) (dev len mode : Byte) (pay : List Byte)
    (hd : dev ∈ cfg.knownIds) (hl : cfg.lenBias + 1 ≤ len.toNat) (h : pay.length = announced cfg len) :
    decodeStream cfg .waitDevice (dev :: len :: mode :: pay) = ([], .waitChecksum dev len mode pay) := by
  have hk : cfg.knownIds.contains dev = true := by simpa using hd
  have hn : ¬ len.toNat < cfg.minLength := by rw [Config.Profile.minLength_eq]; omega
  have := decodeStream_mode_payload cfg dev len mode pay h
  simp only [decodeStream, decoderStep, rxDevice, rxLength, if_pos hk, if_neg hn, RxOutcome.decoder,
    RxOutcome.report] at this ⊢
  simpa using this

/-- Splitting a 16-bit value into its bytes and joining them again. -/
theorem keyOfBytes_high_low (w : Word16) : keyOfBytes (highByte w) (lowByte w) = w := by
  have := w.isLt
  rw [← BitVec.toNat_inj]
  simp only [keyOfBytes, highByte, lowByte, BitVec.toNat_ofNat]
  omega

theorem keyOfBytes_toNat (hi lo : Byte) : (keyOfBytes hi lo).toNat = hi.toNat * 256 + lo.toNat := by
  have := hi.isLt
  have := lo.isLt
  simp only [keyOfBytes, BitVec.toNat_ofNat]
  omega

end Sys2Proof
end

