-- ==== Sys2Proof/Laws/Ops.lean ====
section
/-! SUPPORT. The shared operations: one lemma per operation that says everything it can do. -/

namespace Sys2Proof
namespace Machine

/-! ### The image view -/

theorem Memory.read_write_same (m : Memory) (a : Nat) (b : Byte) : Memory.read (Memory.write m a b) a = some b := by
  induction m with
  | nil => simp [Memory.write, Memory.read]
  | cons c m ih =>
    simp only [Memory.write]
    split
    · simp [Memory.read]
    · split
      · simp [Memory.read]
      · rename_i h1 h2
        simp only [Memory.read]
        rw [if_neg (by omega), ih]

theorem Memory.read_write_other (m : Memory) (a a' : Nat) (b : Byte) (h : a' ≠ a) :
    Memory.read (Memory.write m a b) a' = Memory.read m a' := by
  induction m with
  | nil => simp [Memory.write, Memory.read, h.symm]
  | cons c m ih =>
    simp only [Memory.write]
    split
    · simp [Memory.read, h.symm]
    · split
      · rename_i h1 h2
        simp only [Memory.read]
        rw [if_neg h.symm, if_neg (by omega)]
      · simp only [Memory.read, ih]

/-- Every offset listed after a write was listed before or is the one written. -/
theorem Memory.write_head_lt (c : Host.Cell) (m : Memory) (a : Nat) (b : Byte)
    (hwf : Memory.wf (c :: m) = true) (h : c.1 < a) : Memory.wf (c :: Memory.write m a b) = true := by
  induction m generalizing c with
  | nil => simpa [Memory.write, Memory.wf] using h
  | cons d m ih =>
    simp only [Memory.wf, Bool.and_eq_true, decide_eq_true_eq] at hwf
    simp only [Memory.write]
    split
    · simp [Memory.wf, *]
    · split
      · rename_i h1 h2
        subst h2
        cases m with
        | nil => simp [Memory.wf, h]
        | cons e m => simpa [Memory.wf, h] using hwf.2
      · simp only [Memory.wf, Bool.and_eq_true, decide_eq_true_eq]
        exact ⟨hwf.1, ih d hwf.2 (by omega)⟩

/-- A write keeps the canonical form. -/
theorem Memory.write_wf (m : Memory) (a : Nat) (b : Byte) (h : Memory.wf m = true) :
    Memory.wf (Memory.write m a b) = true := by
  cases m with
  | nil => rfl
  | cons c m =>
    simp only [Memory.write]
    split
    · simp [Memory.wf, *]
    · split
      · rename_i h1 h2
        subst h2
        cases m with
        | nil => rfl
        | cons e m => simpa [Memory.wf] using h
      · exact Memory.write_head_lt c m a b h (by omega)

/-- A sequence of writes keeps the canonical form. -/
theorem Memory.writeAll_wf (m : Memory) (rs : List (Nat × Byte)) (h : Memory.wf m = true) :
    Memory.wf (m.writeAll rs) = true := by
  induction rs generalizing m with
  | nil => exact h
  | cons r rs ih => exact ih _ (Memory.write_wf m r.1 r.2 h)

/-- An offset no request names reads as before. -/
theorem Memory.read_writeAll_other (m : Memory) (rs : List (Nat × Byte)) (a : Nat) (h : ∀ r ∈ rs, r.1 ≠ a) :
    Memory.read (m.writeAll rs) a = Memory.read m a := by
  induction rs generalizing m with
  | nil => rfl
  | cons r rs ih =>
    rw [Memory.writeAll, ih _ fun q hq => h q (List.mem_cons_of_mem _ hq)]
    exact Memory.read_write_other m r.1 a r.2 (h r List.mem_cons_self).symm

theorem reset_image_wf : Memory.wf State.reset.image = true := rfl

/-! ### Function requests -/

@[simp] theorem Memory.writeAll_nil (m : Memory) : m.writeAll [] = m := rfl

@[simp] theorem answersTo_nil (cfg : Config.Profile) : answersTo cfg [] = [] := rfl

@[simp] theorem answersTo_cons (cfg : Config.Profile) (r : FnRequest) (rs : List FnRequest) :
    answersTo cfg (r :: rs) = r.answer cfg :: answersTo cfg rs := rfl

@[simp] theorem writesOf_nil (cfg : Config.Profile) : writesOf cfg [] = [] := rfl

@[simp] theorem writesOf_cons (cfg : Config.Profile) (r : FnRequest) (rs : List FnRequest) :
    writesOf cfg (r :: rs) = r.writes cfg ++ writesOf cfg rs := by simp [writesOf]

@[simp] theorem firstKind_nil : firstKind [] = none := rfl

@[simp] theorem firstKind_singleton (a : FnResult) : firstKind [a] = a.kind := by
  unfold firstKind
  cases h : a.kind <;> simp [h]

/-- The kinds a function port can raise. -/
theorem FnRequest.answer_kind {cfg : Config.Profile} {r : FnRequest} {k : ErrKind} (h : (r.answer cfg).kind = some k) :
    k = .invalidLength ∨ k = .bankOutOfRange ∨ k = .patchOverflow := by
  cases r <;> simp only [FnRequest.answer, answerEncode, answerTranslate, answerPatchCheck, answerPatchWrite, patchPlan]
    at h
  case checksum => cases h
  case computeKey => cases h
  case patchWrite bankId cpuAddr data =>
    cases hp : patchOk cfg cpuAddr.toNat data.length <;> cases hb : bankOfCode cfg bankId <;>
      simp_all [FnResult.kind]
  all_goals
    split at h <;> simp_all [FnResult.kind]

/-- The kinds a handler's requests can raise. -/
theorem firstKind_answersTo {cfg : Config.Profile} {reqs : List FnRequest} {k : ErrKind}
    (h : firstKind (answersTo cfg reqs) = some k) : k = .invalidLength ∨ k = .bankOutOfRange ∨ k = .patchOverflow := by
  simp only [firstKind, answersTo, List.findSome?_map] at h
  obtain ⟨r, _, hr⟩ := List.exists_of_findSome?_eq_some h
  exact FnRequest.answer_kind hr

/-- A write request comes from a `PATCH_WRITE` that lies in the window and names a bank. -/
theorem mem_writesOf {cfg : Config.Profile} {reqs : List FnRequest} {w : Nat × Byte} (h : w ∈ writesOf cfg reqs) :
    ∃ bankId cpuAddr data bank, FnRequest.patchWrite bankId cpuAddr data ∈ reqs ∧
      patchOk cfg cpuAddr.toNat data.length = true ∧ w ∈ patchRequests cfg bank cpuAddr.toNat data := by
  obtain ⟨r, hr, hw⟩ := List.mem_flatMap.mp h
  cases r <;> simp only [FnRequest.writes, writesOfPatch, patchPlan, List.not_mem_nil] at hw
  rename_i bankId cpuAddr data
  cases hp : patchOk cfg cpuAddr.toNat data.length <;> cases hb : bankOfCode cfg bankId <;>
    simp only [hp, hb, if_true, Bool.false_eq_true, if_false, List.not_mem_nil] at hw
  exact ⟨bankId, cpuAddr, data, _, hr, hp, hw⟩

/-! ### Transmission, handlers -/

/-- `Tx(ENCODE(...))` of a payload that fits appends exactly its frame. -/
theorem State.transmit_of_fits (s : State) (raised : Option ErrKind) (dev mode : Byte) {p : List Byte}
    (h : s.cfg.fits p.length = true) :
    ∃ f, IsFrame s.cfg dev mode p f ∧ s.transmit raised dev mode p = { s with tx := s.tx ++ f } := by
  obtain ⟨f, he, hf⟩ := exists_isFrame dev mode h
  exact ⟨f, hf, by simp [State.transmit, he]⟩

/-- `Tx(ENCODE(...))` of a longer payload only decides `err`. -/
theorem State.transmit_of_too_long (s : State) (raised : Option ErrKind) (dev mode : Byte) {p : List Byte}
    (h : s.cfg.fits p.length = false) :
    s.transmit raised dev mode p = { s with err := raised.or (some .invalidLength) } := by
  simp [State.transmit, encodeFrame_of_too_long dev mode h]

theorem State.transmits_of_fits (s : State) (raised : Option ErrKind) (dev mode : Byte) {p : List Byte}
    (h : s.cfg.fits p.length = true) : Transmits s dev mode p (.next (s.transmit raised dev mode p)) := by
  obtain ⟨f, hf, he⟩ := s.transmit_of_fits raised dev mode h
  exact ⟨f, hf, by rw [he]⟩

/-- Either one frame is added to `tx` and nothing else changes, or only `err` is decided. -/
theorem State.transmit_cases (s : State) (raised : Option ErrKind) (dev mode : Byte) (p : List Byte) :
    (∃ f, IsFrame s.cfg dev mode p f ∧ s.transmit raised dev mode p = { s with tx := s.tx ++ f }) ∨
    (s.cfg.fits p.length = false ∧
      s.transmit raised dev mode p = { s with err := raised.or (some .invalidLength) }) := by
  cases h : s.cfg.fits p.length with
  | true => exact .inl (s.transmit_of_fits raised dev mode h)
  | false => exact .inr ⟨rfl, s.transmit_of_too_long raised dev mode h⟩

/-- The first kind raised is the step's, whether or not the reply fits (60_exceptions.md R257). -/
@[simp] theorem State.unknownMode_err (s : State) (dev mode : Byte) :
    (s.unknownMode dev mode).err = some .unknownMode := by
  rcases (s.raise .unknownMode).transmit_cases (some .unknownMode) dev mode [s.cfg.responseFail] with ⟨f, _, h⟩ | ⟨_, h⟩ <;>
    exact congrArg State.err h

/-- The same for the gate's refusal. -/
@[simp] theorem State.unauthorized_err (s : State) (dev mode : Byte) :
    (s.unauthorized dev mode).err = some .unauthorizedAccess := by
  rcases (s.raise .unauthorizedAccess).transmit_cases (some .unauthorizedAccess) dev mode [s.cfg.responseRejected] with
    ⟨f, _, h⟩ | ⟨_, h⟩ <;>
    exact congrArg State.err h

/-- A call and the handler's own requests have exactly the effect `Called`. -/
theorem State.called_served (s : State) (c : HandlerCall) (reqs : List FnRequest) :
    Called s c reqs ((s.called c).served reqs) := rfl

theorem State.afterReply_eq (s : State) :
    ∃ idx, s.afterReply = { s with replyIn := s.replyIn.tail, freeIdx := idx } := by
  unfold State.afterReply
  split
  · rename_i h
    exact ⟨s.freeIdx + 1, by simp [h]⟩
  · rename_i h
    exact ⟨s.freeIdx, by simp [h]⟩

theorem State.afterStatus_eq (s : State) :
    ∃ idx, s.afterStatus = { s with statusIn := s.statusIn.tail, freeIdx := idx } := by
  unfold State.afterStatus
  split
  · rename_i h
    exact ⟨s.freeIdx + 1, by simp [h]⟩
  · rename_i h
    exact ⟨s.freeIdx, by simp [h]⟩

theorem State.afterDraw_eq (s : State) :
    ∃ idx, s.afterDraw = { s with drawIn := s.drawIn.tail, freeIdx := idx } := by
  unfold State.afterDraw
  split
  · rename_i h
    exact ⟨s.freeIdx + 1, by simp [h]⟩
  · rename_i h
    exact ⟨s.freeIdx, by simp [h]⟩

/-- Everything a forwarded request can do. -/
theorem State.forward_spec (s : State) (h : Handler) (dev mode : Byte) (payload : List Byte) :
    Forwards h dev mode payload s (.next (s.forward h dev mode payload)) := by
  obtain ⟨idx, he⟩ := s.afterReply_eq
  refine ⟨idx, (s.afterReply.called (.frame h dev mode payload)).served s.nextReply.requests, ?_, ⟨_, rfl⟩, ?_, ?_, ?_⟩
  · rw [he]
    exact State.called_served _ _ _
  · intro hn
    simp [State.forward, State.callHandler, hn, State.replyWith]
  · intro p hp hl
    simp only [State.forward, State.callHandler, hp, State.replyWith]
    exact State.transmits_of_fits _ _ dev mode (by simpa using hl)
  · intro p hp hl
    simp only [State.forward, State.callHandler, hp, State.replyWith]
    rw [State.transmit_of_too_long _ _ dev mode (by simpa using hl)]
    simp [firstKind, answersTo]

/-! ### Fetching -/

theorem State.fetch_nil {s : State} (h : s.inbox = []) : s.fetch = none := by simp [State.fetch, h]

theorem State.fetch_cons {s : State} {x : Input} {rest : List Input} (h : s.inbox = x :: rest) :
    s.fetch = some (x.instr s.rx, s.begun rest) := by simp [State.fetch, h, State.begun]

theorem step_nil {s : State} (h : s.inbox = []) : step s = .next s := by simp [step, State.fetch_nil h]

theorem step_cons {s : State} {x : Input} {rest : List Input} (h : s.inbox = x :: rest) :
    step s = exec (x.instr s.rx) (s.begun rest) := by simp [step, State.fetch_cons h]

end Machine
end Sys2Proof
end

