-- ==== Sys2Proof/Laws/PerInstr.lean ====
section
/-! SUPPORT. One lemma per operation: its bytes on the wire, where it has any, are one received byte or a whole frame
(30_encoding.md R80 to R82, R88). Operations with no wire encoding (R93) meet it with no bytes to speak of. -/

namespace Sys2Proof
namespace Laws
namespace WireFrame

/-- What an operation's encoding is: one received byte, or the frame of some id, mode and payload. -/
def Statement (i : Instr) : Prop :=
  ∀ (cfg : Config.Profile) (bytes : List Byte), encodeInstr cfg i = some bytes →
    (∃ b, bytes = [b]) ∨ ∃ dev mode payload, Machine.IsFrame cfg dev mode payload bytes

/-- An operation encoded by `ENCODE` is a frame. -/
theorem of_encodeFrame {i : Instr} {dev mode : Byte} (payload : Config.Profile → List Byte)
    (h : ∀ cfg, encodeInstr cfg i = encodeFrame cfg dev mode (payload cfg)) : Statement i := fun cfg bytes hb =>
  .inr ⟨dev, mode, payload cfg, (encodeFrame_eq_some_iff cfg dev mode (payload cfg) bytes).mp (by rw [← h cfg, hb])⟩

/-- An operation encoded as one byte is that byte. -/
theorem of_byte {i : Instr} (b : Byte) (h : ∀ cfg, encodeInstr cfg i = some [b]) : Statement i := fun cfg bytes hb =>
  .inl ⟨b, (Option.some.inj (by rw [← h cfg, hb])).symm⟩

/-- An operation without an encoding has no bytes. -/
theorem of_none {i : Instr} (h : ∀ cfg, encodeInstr cfg i = none) : Statement i := fun cfg bytes hb => by
  rw [h cfg] at hb
  cases hb

theorem seedRequest (dev submode : Byte) : Statement (.seedRequest dev submode) :=
  of_encodeFrame (fun _ => [submode]) fun _ => rfl

theorem keySubmit (dev : Byte) (submitted : Word16) : Statement (.keySubmit dev submitted) :=
  of_encodeFrame (fun _ => [highByte submitted, lowByte submitted]) fun _ => rfl

theorem secMalformed (dev : Byte) (payload : List Byte) : Statement (.secMalformed dev payload) :=
  of_encodeFrame (fun _ => payload) fun _ => rfl

theorem mode1Datastream (dev : Byte) (payload : List Byte) : Statement (.mode1Datastream dev payload) :=
  of_encodeFrame (fun _ => payload) fun _ => rfl

theorem mode2FreezeFrame (dev : Byte) (payload : List Byte) : Statement (.mode2FreezeFrame dev payload) :=
  of_encodeFrame (fun _ => payload) fun _ => rfl

theorem mode3DtcRead (dev : Byte) (payload : List Byte) : Statement (.mode3DtcRead dev payload) :=
  of_encodeFrame (fun _ => payload) fun _ => rfl

theorem mode4ActuatorTest (dev : Byte) (payload : List Byte) : Statement (.mode4ActuatorTest dev payload) :=
  of_encodeFrame (fun _ => payload) fun _ => rfl

theorem mode5FlashEntry (dev : Byte) (payload : List Byte) : Statement (.mode5FlashEntry dev payload) :=
  of_encodeFrame (fun _ => payload) fun _ => rfl

theorem mode6UploadExecute (dev : Byte) (payload : List Byte) : Statement (.mode6UploadExecute dev payload) :=
  of_encodeFrame (fun _ => payload) fun _ => rfl

theorem mode7ClearDtc (dev : Byte) (payload : List Byte) : Statement (.mode7ClearDtc dev payload) :=
  of_encodeFrame (fun _ => payload) fun _ => rfl

theorem mode8DisableChatter (dev : Byte) (payload : List Byte) : Statement (.mode8DisableChatter dev payload) :=
  of_encodeFrame (fun _ => payload) fun _ => rfl

theorem mode9EnableChatter (dev : Byte) (payload : List Byte) : Statement (.mode9EnableChatter dev payload) :=
  of_encodeFrame (fun _ => payload) fun _ => rfl

theorem mode10DiagNvram (dev : Byte) (payload : List Byte) : Statement (.mode10DiagNvram dev payload) :=
  of_encodeFrame (fun _ => payload) fun _ => rfl

theorem reservedMode (dev mode : Byte) (payload : List Byte) : Statement (.reservedMode dev mode payload) :=
  of_encodeFrame (fun _ => payload) fun _ => rfl

theorem seedResponse (dev submode seedHi seedLo : Byte) : Statement (.seedResponse dev submode seedHi seedLo) :=
  of_encodeFrame (fun _ => [submode, seedHi, seedLo]) fun _ => rfl

theorem keyResultAccepted (dev : Byte) : Statement (.keyResultAccepted dev) :=
  of_encodeFrame (fun cfg => [cfg.resultAccepted]) fun _ => rfl

theorem keyResultRejected (dev : Byte) : Statement (.keyResultRejected dev) :=
  of_encodeFrame (fun cfg => [cfg.resultRejected]) fun _ => rfl

theorem responseRejected (dev mode : Byte) : Statement (.responseRejected dev mode) :=
  of_encodeFrame (fun cfg => [cfg.responseRejected]) fun _ => rfl

theorem responseFail (dev mode : Byte) : Statement (.responseFail dev mode) :=
  of_encodeFrame (fun cfg => [cfg.responseFail]) fun _ => rfl

theorem mode4Reply (dev statusByte : Byte) : Statement (.mode4Reply dev statusByte) :=
  of_encodeFrame (fun _ => [statusByte]) fun _ => rfl

theorem handlerReply (dev mode : Byte) (payload : List Byte) : Statement (.handlerReply dev mode payload) :=
  of_encodeFrame (fun _ => payload) fun _ => rfl

theorem rxWaitDevice (b : Byte) : Statement (.rxWaitDevice b) :=
  of_byte _ fun _ => rfl

theorem rxWaitLength (b : Byte) : Statement (.rxWaitLength b) :=
  of_byte _ fun _ => rfl

theorem rxWaitMode (b : Byte) : Statement (.rxWaitMode b) :=
  of_byte _ fun _ => rfl

theorem rxWaitPayload (b : Byte) : Statement (.rxWaitPayload b) :=
  of_byte _ fun _ => rfl

theorem rxWaitChecksum (b : Byte) : Statement (.rxWaitChecksum b) :=
  of_byte _ fun _ => rfl

theorem checksum (bytes : List Byte) : Statement (.checksum bytes) :=
  of_none fun _ => rfl

theorem encode (dev mode : Byte) (payload : List Byte) : Statement (.encode dev mode payload) :=
  of_none fun _ => rfl

theorem computeKey (seedHi seedLo : Byte) : Statement (.computeKey seedHi seedLo) :=
  of_none fun _ => rfl

theorem translate (bankId : Byte) (cpuAddr : Word16) : Statement (.translate bankId cpuAddr) :=
  of_none fun _ => rfl

theorem patchCheck (cpuAddr : Word16) (len : Nat) : Statement (.patchCheck cpuAddr len) :=
  of_none fun _ => rfl

theorem patchWrite (bankId : Byte) (cpuAddr : Word16) (data : List Byte) : Statement (.patchWrite bankId cpuAddr data) :=
  of_none fun _ => rfl

theorem powerOn : Statement .powerOn :=
  of_none fun _ => rfl

theorem connect : Statement .connect :=
  of_none fun _ => rfl

theorem busReset : Statement .busReset :=
  of_none fun _ => rfl

theorem disconnect : Statement .disconnect :=
  of_none fun _ => rfl

theorem timeout : Statement .timeout :=
  of_none fun _ => rfl

theorem cancel : Statement .cancel :=
  of_none fun _ => rfl

end WireFrame
end Laws
end Sys2Proof
end

