-- ==== Sys2Proof/Laws/Requests.lean ====
section
/-! SUPPORT. What a request can do, said once: every request meaning has the effect `RequestEffect`, so rules over the
whole machine need not unfold the meanings again. Also the routing of each mode. -/

namespace Sys2Proof
namespace Machine

/-- Everything a request of this id and mode can change. `served`: the function requests a called handler makes. -/
structure RequestEffect (dev mode : Byte) (s t : State) : Prop where
  cfg : t.cfg = s.cfg
  rx : t.rx = s.rx
  inbox : t.inbox = s.inbox
  tx : t.tx = s.tx ∨ ∃ p f, IsFrame s.cfg dev mode p f ∧ t.tx = s.tx ++ f
  calls : ∃ new, t.calls = s.calls ++ new ∧ new.length ≤ 1 ∧
    ∀ c ∈ new, c.privileged = true → s.sessState = .unlocked ∧ t.sess = s.sess
  sess : t.sess = s.sess ∨ s.sessState ≠ .unlocked ∧ mode = 13#8
  served : ∃ reqs, (reqs = [] ∨ t.calls ≠ s.calls ∧ (reqs = s.nextReply.requests ∨ reqs = s.nextStatus.requests)) ∧
    t.img = s.img ++ writesOf s.cfg reqs ∧ t.image = s.image.writeAll (writesOf s.cfg reqs) ∧
    t.fnOut = s.fnOut ++ answersTo s.cfg reqs ∧
    (t.err = s.err ∨ t.err = some .invalidLength ∨ t.err = some .unknownMode ∨ t.err = some .unauthorizedAccess ∨
      ∃ k, firstKind (answersTo s.cfg reqs) = some k ∧ t.err = some k)
  draws : t.drawIn = s.drawIn ∨ t.drawIn = s.drawIn.tail ∧ t.statusIn = s.statusIn ∧ t.replyIn = s.replyIn
  statuses : t.statusIn = s.statusIn ∨ t.statusIn = s.statusIn.tail ∧ t.drawIn = s.drawIn ∧ t.replyIn = s.replyIn
  replies : t.replyIn = s.replyIn ∨ t.replyIn = s.replyIn.tail ∧ t.drawIn = s.drawIn ∧ t.statusIn = s.statusIn

theorem State.transmit_tx (s : State) (raised : Option ErrKind) (dev mode : Byte) (p : List Byte) :
    (s.transmit raised dev mode p).tx = s.tx ∨
      ∃ q f, IsFrame s.cfg dev mode q f ∧ (s.transmit raised dev mode p).tx = s.tx ++ f := by
  rcases s.transmit_cases raised dev mode p with ⟨f, hf, he⟩ | ⟨_, he⟩
  · exact .inr ⟨p, f, hf, by rw [he]⟩
  · exact .inl (by rw [he])

theorem State.transmit_err (s : State) (raised : Option ErrKind) (dev mode : Byte) (p : List Byte) :
    (s.transmit raised dev mode p).err = s.err ∨
      (s.transmit raised dev mode p).err = raised.or (some .invalidLength) := by
  rcases s.transmit_cases raised dev mode p with ⟨f, hf, he⟩ | ⟨_, he⟩
  · exact .inl (by rw [he])
  · exact .inr (by rw [he])

/-- A request that calls no handler serves no function request. -/
theorem serves_none {s t : State} (h1 : t.img = s.img) (h2 : t.image = s.image) (h3 : t.fnOut = s.fnOut)
    (h4 : t.err = s.err ∨ t.err = some .invalidLength ∨ t.err = some .unknownMode ∨ t.err = some .unauthorizedAccess) :
    ∃ reqs, (reqs = [] ∨ t.calls ≠ s.calls ∧ (reqs = s.nextReply.requests ∨ reqs = s.nextStatus.requests)) ∧
      t.img = s.img ++ writesOf s.cfg reqs ∧ t.image = s.image.writeAll (writesOf s.cfg reqs) ∧
      t.fnOut = s.fnOut ++ answersTo s.cfg reqs ∧
      (t.err = s.err ∨ t.err = some .invalidLength ∨ t.err = some .unknownMode ∨ t.err = some .unauthorizedAccess ∨
        ∃ k, firstKind (answersTo s.cfg reqs) = some k ∧ t.err = some k) :=
  ⟨[], .inl rfl, by simpa using h1, by simpa using h2, by simpa using h3, by tauto⟩

theorem transmit_effect (s : State) (dev mode : Byte) (p : List Byte) :
    RequestEffect dev mode s (s.transmit none dev mode p) := by
  constructor
  case tx => exact s.transmit_tx none dev mode p
  case served =>
    refine serves_none (by simp) (by simp) (by simp) ?_
    rcases s.transmit_err none dev mode p with h | h <;> simp [h]
  all_goals simp

theorem unknownMode_effect (s : State) (dev mode : Byte) : RequestEffect dev mode s (s.unknownMode dev mode) := by
  constructor
  case tx => exact (s.raise .unknownMode).transmit_tx (some .unknownMode) dev mode _
  case served => exact serves_none (by simp) (by simp) (by simp) (by simp)
  all_goals simp

theorem unauthorized_effect (s : State) (dev mode : Byte) : RequestEffect dev mode s (s.unauthorized dev mode) := by
  constructor
  case tx => exact (s.raise .unauthorizedAccess).transmit_tx (some .unauthorizedAccess) dev mode _
  case served => exact serves_none (by simp) (by simp) (by simp) (by simp)
  all_goals simp

theorem State.replyWith_tx (s : State) (raised : Option ErrKind) (dev mode : Byte) (r : Option (List Byte)) :
    (s.replyWith raised dev mode r).tx = s.tx ∨
      ∃ q f, IsFrame s.cfg dev mode q f ∧ (s.replyWith raised dev mode r).tx = s.tx ++ f := by
  cases r with
  | none => exact .inl rfl
  | some p => exact s.transmit_tx raised dev mode p

theorem State.replyWith_err (s : State) (raised : Option ErrKind) (dev mode : Byte) (r : Option (List Byte)) :
    (s.replyWith raised dev mode r).err = s.err ∨
      (s.replyWith raised dev mode r).err = raised.or (some .invalidLength) := by
  cases r with
  | none => exact .inl rfl
  | some p => exact s.transmit_err raised dev mode p

/-- The transmission and the report of a handler call. -/
theorem State.callHandler_tx (s : State) (c : HandlerCall) (reqs : List FnRequest) (dev mode : Byte)
    (r : Option (List Byte)) : (s.callHandler c reqs dev mode r).tx = s.tx ∨
      ∃ q f, IsFrame s.cfg dev mode q f ∧ (s.callHandler c reqs dev mode r).tx = s.tx ++ f := by
  simpa [State.callHandler] using ((s.called c).served reqs).replyWith_tx (firstKind (answersTo s.cfg reqs)) dev mode r

theorem State.callHandler_err (s : State) (c : HandlerCall) (reqs : List FnRequest) (dev mode : Byte)
    (r : Option (List Byte)) : (s.callHandler c reqs dev mode r).err = s.err ∨
      (s.callHandler c reqs dev mode r).err = some .invalidLength ∨
      ∃ k, firstKind (answersTo s.cfg reqs) = some k ∧ (s.callHandler c reqs dev mode r).err = some k := by
  have := ((s.called c).served reqs).replyWith_err (firstKind (answersTo s.cfg reqs)) dev mode r
  cases hk : firstKind (answersTo s.cfg reqs) <;> simp_all [State.callHandler]

/-- A call of a handler, allowed to be a privileged one only in UNLOCKED. -/
theorem forward_effect (s : State) (h : Handler) (dev mode : Byte) (p : List Byte)
    (hh : (HandlerCall.frame h dev mode p).privileged = true → s.sessState = .unlocked) :
    RequestEffect dev mode s (s.forward h dev mode p) := by
  constructor
  case tx => simpa [State.forward] using s.afterReply.callHandler_tx (.frame h dev mode p) s.nextReply.requests dev mode _
  case calls => simpa using hh
  case served =>
    refine ⟨s.nextReply.requests, .inr ⟨by simp, .inl rfl⟩, by simp, by simp, by simp, ?_⟩
    have := s.afterReply.callHandler_err (.frame h dev mode p) s.nextReply.requests dev mode s.nextReply.reply
    simp only [State.afterReply_err, State.afterReply_cfg] at this
    unfold State.forward
    tauto
  all_goals simp

theorem gated_effect (s : State) (h : Handler) (dev mode : Byte) (p : List Byte) :
    RequestEffect dev mode s (s.gated h dev mode p) := by
  unfold State.gated
  split
  · exact unauthorized_effect s dev mode
  · exact unauthorized_effect s dev mode
  · rename_i hs
    exact forward_effect s h dev mode p fun _ => by simp [State.sessState, hs]

theorem execSeedRequest_effect {dev submode : Byte} {s t : State} (h : execSeedRequest dev submode s = .next t) :
    RequestEffect dev 13#8 s t := by
  unfold execSeedRequest at h
  have served : s.sessState ≠ .unlocked → RequestEffect dev 13#8 s
      (s.issueSeed.transmit none dev 13#8 [submode, highByte s.nextDraw, lowByte s.nextDraw]) := by
    intro hs
    constructor
    case tx => simpa using s.issueSeed.transmit_tx none dev 13#8 [submode, highByte s.nextDraw, lowByte s.nextDraw]
    case sess => exact .inr ⟨hs, rfl⟩
    case served =>
      refine serves_none (by simp) (by simp) (by simp) ?_
      rcases s.issueSeed.transmit_err none dev 13#8 [submode, highByte s.nextDraw, lowByte s.nextDraw] with e | e
      · exact .inl (by simpa using e)
      · exact .inr (.inl e)
    all_goals simp
  split at h
  · cases h; exact served (by simp [State.sessState, *])
  · cases h; exact served (by simp [State.sessState, *])
  · cases h; exact transmit_effect s dev 13#8 _

theorem execKeySubmit_effect {dev : Byte} {k : Word16} {s t : State} (h : execKeySubmit dev k s = .next t) :
    RequestEffect dev 13#8 s t := by
  unfold execKeySubmit at h
  have moved : ∀ (sess : Session) (p : List Byte), s.sessState ≠ .unlocked →
      RequestEffect dev 13#8 s (({ s with sess := sess } : State).transmit none dev 13#8 p) := by
    intro sess p hs
    constructor
    case tx => exact State.transmit_tx { s with sess := sess } none dev 13#8 p
    case sess => exact .inr ⟨hs, rfl⟩
    case served =>
      refine serves_none (by simp) (by simp) (by simp) ?_
      rcases State.transmit_err { s with sess := sess } none dev 13#8 p with e | e
      · exact .inl e
      · exact .inr (.inl e)
    all_goals simp
  split at h
  · cases h; exact transmit_effect s dev 13#8 _
  · split at h
    · cases h; exact moved _ _ (by simp [State.sessState, *])
    · cases h; exact moved _ _ (by simp [State.sessState, *])
  · cases h; exact transmit_effect s dev 13#8 _

theorem execMode4_effect {dev : Byte} {p : List Byte} {s t : State} (h : execMode4ActuatorTest dev p s = .next t) :
    RequestEffect dev 4#8 s t := by
  unfold execMode4ActuatorTest at h
  split at h
  · cases h; exact unknownMode_effect s dev 4#8
  · rename_i c _
    cases h
    constructor
    case tx => simpa [State.callOutput] using s.afterStatus.callHandler_tx (.output c) s.nextStatus.requests dev 4#8 _
    case calls => simp [HandlerCall.privileged]
    case served =>
      refine ⟨s.nextStatus.requests, .inr ⟨by simp, .inr rfl⟩, by simp, by simp, by simp, ?_⟩
      have := s.afterStatus.callHandler_err (.output c) s.nextStatus.requests dev 4#8 (some [s.nextStatus.status])
      simp only [State.afterStatus_err, State.afterStatus_cfg] at this
      unfold State.callOutput
      tauto
    all_goals simp

/-! ### Routing -/

theorem mode_cases (m : Byte) : m = 13#8 ∨ m = 1#8 ∨ m = 2#8 ∨ m = 3#8 ∨ m = 4#8 ∨ m = 5#8 ∨ m = 6#8 ∨ m = 7#8 ∨
    m = 8#8 ∨ m = 9#8 ∨ m = 10#8 ∨ m ∉ Config.routedModes := by
  revert m
  decide

theorem decodeRequest_reserved (cfg : Config.Profile) (f : Frame) (h : f.mode ∉ cfg.modes ∨ f.mode ∉ Config.routedModes) :
    decodeRequest cfg f = .reservedMode f.deviceId f.mode f.payload := by
  unfold decodeRequest
  split
  · rename_i hc
    have hr := h.resolve_left (by simpa using hc)
    split <;> first
      | rfl
      | (rename_i hm; exfalso; apply hr; rw [show f.mode = BitVec.ofNat 8 f.mode.toNat by simp, hm]; decide)
  · rfl

theorem dispatch_reserved (f : Frame) (s : State) (h : f.mode ∉ s.cfg.modes ∨ f.mode ∉ Config.routedModes) :
    dispatch f s = execReservedMode f.deviceId f.mode f.payload s := by
  unfold dispatch
  split
  · rename_i hc
    have hr := h.resolve_left (by simpa using hc)
    split <;> first
      | rfl
      | (rename_i hm; exfalso; apply hr; rw [show f.mode = BitVec.ofNat 8 f.mode.toNat by simp, hm]; decide)
  · rfl

theorem security_effect {f : Frame} {s t : State} (h : security f s = .next t) :
    RequestEffect f.deviceId 13#8 s t := by
  unfold security at h
  split at h
  · split at h
    · exact execSeedRequest_effect h
    · cases h; exact unknownMode_effect s f.deviceId 13#8
  · split at h
    · split at h
      · exact execKeySubmit_effect h
      · cases h; exact unknownMode_effect s f.deviceId 13#8
    · cases h; exact unknownMode_effect s f.deviceId 13#8

/-- Everything a dispatched frame can do. -/
theorem dispatch_effect {f : Frame} {s t : State} (h : dispatch f s = .next t) :
    RequestEffect f.deviceId f.mode s t := by
  obtain ⟨dev, len, m, p, c⟩ := f
  dsimp only
  by_cases hm : m ∈ s.cfg.modes
  · have hc : s.cfg.modes.contains m = true := by simpa using hm
    simp only [dispatch, hc, if_true] at h
    rcases mode_cases m with e | e | e | e | e | e | e | e | e | e | e | e
    · subst e; exact security_effect (f := ⟨dev, len, 13#8, p, c⟩) h
    · subst e; cases h; exact forward_effect s .telemetry dev 1#8 p (by simp [HandlerCall.privileged])
    · subst e; cases h; exact forward_effect s (.ext 2#8) dev 2#8 p (by simp [HandlerCall.privileged])
    · subst e; cases h; exact forward_effect s (.ext 3#8) dev 3#8 p (by simp [HandlerCall.privileged])
    · subst e; exact execMode4_effect h
    · subst e; cases h; exact gated_effect s .flashEntry dev 5#8 p
    · subst e; cases h; exact gated_effect s .upload dev 6#8 p
    · subst e; cases h; exact forward_effect s (.ext 7#8) dev 7#8 p (by simp [HandlerCall.privileged])
    · subst e; cases h; exact forward_effect s (.ext 8#8) dev 8#8 p (by simp [HandlerCall.privileged])
    · subst e; cases h; exact forward_effect s (.ext 9#8) dev 9#8 p (by simp [HandlerCall.privileged])
    · subst e; cases h; exact forward_effect s (.ext 10#8) dev 10#8 p (by simp [HandlerCall.privileged])
    · have he := dispatch_reserved ⟨dev, len, m, p, c⟩ s (.inr e)
      simp only [dispatch, hc, if_true] at he
      rw [he] at h
      cases h
      exact unknownMode_effect s dev m
  · rw [dispatch_reserved ⟨dev, len, m, p, c⟩ s (.inl hm)] at h
    cases h
    exact unknownMode_effect s dev m

/-- A frame that changes the session is a mode-13 one with a sub-request's length byte (43_security.md R199, R200). -/
theorem dispatch_sess {f : Frame} {s t : State} (h : dispatch f s = .next t) (hne : t.sess ≠ s.sess) :
    f.mode = 13#8 ∧ (f.lengthByte = s.cfg.lenSeedRequest ∨ f.lengthByte = s.cfg.lenKeySubmit) := by
  have hm := ((dispatch_effect h).sess.resolve_left hne).2
  refine ⟨hm, ?_⟩
  by_contra hl
  rw [not_or] at hl
  by_cases hc : 13#8 ∈ s.cfg.modes
  · simp only [dispatch, hm, List.contains_iff_mem, hc, if_true, security, if_neg hl.1, if_neg hl.2] at h
    cases h
    exact hne (by simp)
  · rw [dispatch_reserved f s (.inl (by rwa [hm]))] at h
    cases h
    exact hne (by simp)

/-! ### The step of a received byte -/

/-- A received byte is one step of the decoder's automaton and what its outcome does to the block. -/
theorem step_rx {s : State} {b : Byte} {rest : List Input} (h : s.inbox = .rx b :: rest) :
    step s = (s.begun rest).received (decoderStep s.cfg s.rx b) := by
  rw [step_cons h]
  cases hr : s.rx <;>
    simp only [Input.instr, Decoder.state, decodeRx, exec, execRxWaitDevice, execRxWaitLength, execRxWaitMode,
      execRxWaitPayload, execRxWaitChecksum, State.begun, hr, decoderStep]

/-- The three things a received byte can do to the block. -/
theorem received_cases {s t : State} {o : RxOutcome} (h : s.received o = .next t) :
    (∃ d, o = .wait d ∧ t = { s with rx := d }) ∨
    (∃ k, o = .error k ∧ t = { s with rx := .waitDevice, err := some k }) ∨
    (∃ f, o = .done f ∧ dispatch f { s with rx := .waitDevice } = .next t) := by
  cases o with
  | wait d => cases h; exact .inl ⟨d, rfl, rfl⟩
  | error k => cases h; exact .inr (.inl ⟨k, rfl, rfl⟩)
  | done f => exact .inr (.inr ⟨f, rfl, h⟩)

/-- A frame is delivered only by the right checksum byte in WAIT_CHECKSUM, and it is the latched frame. -/
theorem decoderStep_done {cfg : Config.Profile} {d : Decoder} {b : Byte} {f : Frame}
    (h : decoderStep cfg d b = .done f) :
    d = .waitChecksum f.deviceId f.lengthByte f.mode f.payload ∧ f.checksum = b ∧
      b = checksum (frameBody f.deviceId f.lengthByte f.mode f.payload) := by
  cases d with
  | waitDevice => cases h
  | waitLength dev =>
    simp only [decoderStep, rxLength] at h
    split at h <;> cases h
  | waitMode dev len => cases h
  | waitPayload dev len mode pay => cases h
  | waitChecksum dev len mode pay =>
    simp only [decoderStep, rxChecksum] at h
    split at h
    · rename_i hb
      cases h
      exact ⟨rfl, rfl, hb⟩
    · cases h

/-- Framing errors arise in WAIT_LENGTH and WAIT_CHECKSUM only. -/
theorem decoderStep_error {cfg : Config.Profile} {d : Decoder} {b : Byte} {k : ErrKind}
    (h : decoderStep cfg d b = .error k) :
    (d.state = .waitLength ∧ k = .invalidLength) ∨ (d.state = .waitChecksum ∧ k = .checksumMismatch) := by
  cases d with
  | waitDevice => cases h
  | waitLength dev =>
    simp only [decoderStep, rxLength] at h
    split at h <;> cases h
    exact .inl ⟨rfl, rfl⟩
  | waitMode dev len => cases h
  | waitPayload dev len mode pay => cases h
  | waitChecksum dev len mode pay =>
    simp only [decoderStep, rxChecksum] at h
    split at h <;> cases h
    exact .inr ⟨rfl, rfl⟩

/-- Every function request asked by the host answers, and is served alone. -/
theorem fn_exec (s : State) (r : FnRequest) : exec r.instr s = .next (s.served [r]) := by
  cases r <;> rfl

/-- Everything an event can do. -/
theorem evt_effect (s : State) (e : Event) : ∃ t, exec e.instr s = .next t ∧
    t = { s with rx := t.rx, sess := t.sess } ∧
    (e.resetsSession = true → t.sess = .locked) ∧ (e.resetsSession = false → t.sess = s.sess) ∧
    (e ≠ .timeout → t.rx = .waitDevice) ∧ (e = .timeout → t.rx = s.rx) := by
  cases e <;>
    exact ⟨_, rfl, rfl, by simp [Event.resetsSession, State.resetBlock, State.lockSession, State.resetDecoder],
      by simp [Event.resetsSession, State.resetBlock, State.lockSession, State.resetDecoder],
      by simp [State.resetBlock, State.lockSession, State.resetDecoder],
      by simp [State.resetBlock, State.lockSession, State.resetDecoder]⟩

end Machine
end Sys2Proof
end

