-- ==== Sys2Proof/Tests/Slice0.lean ====
section
/-! SUPPORT. Tests of the model's text: ill-formed terms, frames written out from the encoding, one step each with the
bytes 95_test_vectors.md gives (V-…), and a witness for the hypotheses of every obligation that has some. -/

open Sys2Proof Sys2Proof.Machine

namespace Sys2Proof
namespace Tests

/-! ### Well-formedness: one ill-formed term for each check -/

theorem test_wf_refuses_unknown_id : (Instr.mode1Datastream 0xF5#8 []).wf Config.document = false := by decide
theorem test_wf_refuses_long_payload :
    (Instr.mode1Datastream 0xF4#8 (List.replicate 170 0#8)).wf Config.document = false := by decide +kernel
theorem test_wf_refuses_malformed_of_length_one :
    (Instr.secMalformed 0xF4#8 [1#8]).wf Config.document = false := by decide
theorem test_wf_refuses_malformed_of_length_two :
    (Instr.secMalformed 0xF4#8 [1#8, 2#8]).wf Config.document = false := by decide
theorem test_wf_refuses_named_mode_as_reserved :
    (Instr.reservedMode 0xF4#8 0x0A#8 []).wf Config.document = false := by decide
theorem test_wf_refuses_rejection_of_other_mode :
    (Instr.responseRejected 0xF4#8 4#8).wf Config.document = false := by decide
theorem test_wf_refuses_long_handler_reply :
    (Instr.handlerReply 0xF4#8 6#8 (List.replicate 170 0#8)).wf Config.document = false := by decide +kernel
theorem test_wf_refuses_patch_length : (Instr.patchCheck 0x5D00#16 65537).wf Config.document = false := by decide
theorem test_wf_refuses_reserved_of_other_id :
    (Instr.reservedMode 0xF5#8 0x0B#8 []).wf Config.document = false := by decide
theorem test_wf_refuses_seed_request_of_other_id : (Instr.seedRequest 0x00#8 1#8).wf Config.document = false := by
  decide
theorem test_wf_accepts_boundaries :
    (Instr.mode6UploadExecute 0xF9#8 (List.replicate 169 0#8)).wf Config.document = true ∧
    (Instr.reservedMode 0xF0#8 0x0B#8 []).wf Config.document = true ∧
    (Instr.patchCheck 0xFFFF#16 65536).wf Config.document = true := by decide +kernel

/-! ### The parameter record (00_scope.md R8, R9) -/

/-- A profile that differs from the document's in its wire format, its modes, its mode-13 lengths and its bank codes: what
a target variant may choose. Built for the tests, vouched for by no one. -/
def variant : Config.Profile :=
  { Config.document with
    knownIds := [0x10#8], lenBias := 0, maxPayload := 4, modes := [1#8, 6#8, 13#8, 0x20#8],
    lenSeedRequest := 0x03#8, lenKeySubmit := 0x04#8, bankCode1 := 0x41#8, bankCode2 := 0x42#8, bankCode3 := 0x43#8,
    verified := [.lenBias, .bankCode] }

/-- The values of the table of R8; the seed source is no field (a draw). -/
theorem test_document_values :
    Config.document.knownIds = [0xF4#8, 0xF7#8, 0xF1#8, 0xF0#8, 0xF9#8] ∧ Config.document.lenBias = 0x55 ∧
    Config.document.maxPayload = 255 - 86 ∧ Config.document.lenSeedResponse = 0x59#8 ∧
    Config.document.keyConstant = 0x934D ∧ Config.document.patchLen = 768 ∧ Config.document.idleTimeout = none ∧
    Config.document.imageSize = none := by decide
/-- "the numeric literals are unaudited" (R8): no value of the document carries the flag, a variant's may. -/
theorem test_verification_flag :
    Config.document.isVerified .lenBias = false ∧ variant.isVerified .lenBias = true ∧
    variant.isVerified .keyConstant = false := by decide
theorem test_wf_refuses_mode_not_in_modes : (Instr.mode2FreezeFrame 0x10#8 []).wf variant = false := by decide
theorem test_wf_refuses_seed_request_of_other_length :
    (Instr.seedRequest 0x10#8 1#8).wf variant = false ∧ (Instr.secMalformed 0x10#8 [1#8]).wf variant = true := by decide
theorem test_wf_refuses_key_of_other_length :
    (Instr.keySubmit 0x10#8 0#16).wf { variant with lenKeySubmit := 0x05#8 } = false := by decide
/-- With LEN_BIAS 0 a frame of two payload bytes has length byte 3; bytes summing to 0 by hand. -/
theorem test_decode_variant :
    decode variant [0x10#8, 0x03#8, 0x0D#8, 0x07#8, 0x08#8, 0xD1#8] = .ok (.seedRequest 0x10#8 0x07#8, []) ∧
    decode variant [0x10#8, 0x01#8, 0x02#8, 0xED#8] = .ok (.reservedMode 0x10#8 2#8 [], []) ∧
    decode variant [0x10#8, 0x01#8, 0x20#8, 0xCF#8] = .ok (.reservedMode 0x10#8 0x20#8 [], []) ∧
    decode variant [0x10#8, 0x00#8] = .error (.framing .invalidLength) :=
  ⟨by decide, by decide, by decide, by decide⟩

/-! ### Decoding: frames written bit by bit, dddddddd LengthByte Mode Payload Checksum (30_encoding.md R80; the strings of
opcode_table.json). Checksums are from 95_test_vectors.md or counted by hand. -/

theorem test_decode_seedRequest : decode Config.document
    [0b11110100#8, 0b01010111#8, 0b00001101#8, 0b00000001#8, 0b10100111#8] =
      .ok (.seedRequest 0xF4#8 1#8, []) := by decide
theorem test_decode_keySubmit : decode Config.document
    [0b11110100#8, 0b01011000#8, 0b00001101#8, 0b01011111#8, 0b00111011#8, 0b00001101#8] =
      .ok (.keySubmit 0xF4#8 0x5F3B#16, []) := by decide
theorem test_decode_secMalformed : decode Config.document
    [0b11110100#8, 0b01011001#8, 0b00001101#8, 0b00000010#8, 0b10000000#8, 0b00111011#8, 0b11101001#8] =
      .ok (.secMalformed 0xF4#8 [2#8, 0x80#8, 0x3B#8], []) := by decide
theorem test_decode_mode1 : decode Config.document [0b11110100#8, 0b01010110#8, 0b00000001#8, 0b10110101#8] =
    .ok (.mode1Datastream 0xF4#8 [], []) := by decide
theorem test_decode_mode2 : decode Config.document
    [0b11111001#8, 0b01011001#8, 0b00000010#8, 0b00000001#8, 0b00000010#8, 0b00000011#8, 0b10100110#8] =
      .ok (.mode2FreezeFrame 0xF9#8 [1#8, 2#8, 3#8], []) := by decide
theorem test_decode_mode3 : decode Config.document [0b11110100#8, 0b01010110#8, 0b00000011#8, 0b10110011#8] =
    .ok (.mode3DtcRead 0xF4#8 [], []) := by decide
theorem test_decode_mode4 : decode Config.document
    [0b11110100#8, 0b01010111#8, 0b00000100#8, 0b00000001#8, 0b10110000#8] =
      .ok (.mode4ActuatorTest 0xF4#8 [1#8], []) := by decide
theorem test_decode_mode5 : decode Config.document [0b11110100#8, 0b01010110#8, 0b00000101#8, 0b10110001#8] =
    .ok (.mode5FlashEntry 0xF4#8 [], []) := by decide
theorem test_decode_mode6 : decode Config.document
    [0b11110100#8, 0b01011000#8, 0b00000110#8, 0b11011110#8, 0b10101101#8, 0b00100011#8] =
      .ok (.mode6UploadExecute 0xF4#8 [0xDE#8, 0xAD#8], []) := by decide
theorem test_decode_mode7 : decode Config.document [0b11110100#8, 0b01010110#8, 0b00000111#8, 0b10101111#8] =
    .ok (.mode7ClearDtc 0xF4#8 [], []) := by decide
theorem test_decode_mode8 : decode Config.document [0b11110001#8, 0b01010110#8, 0b00001000#8, 0b10110001#8] =
    .ok (.mode8DisableChatter 0xF1#8 [], []) := by decide
theorem test_decode_mode9 : decode Config.document [0b11110100#8, 0b01010110#8, 0b00001001#8, 0b10101101#8] =
    .ok (.mode9EnableChatter 0xF4#8 [], []) := by decide
theorem test_decode_mode10 : decode Config.document
    [0b11110100#8, 0b01010111#8, 0b00001010#8, 0b00000000#8, 0b10101011#8] =
      .ok (.mode10DiagNvram 0xF4#8 [0#8], []) := by decide
theorem test_decode_reservedMode : decode Config.document [0b11110111#8, 0b01010110#8, 0b00001011#8, 0b10101000#8] =
    .ok (.reservedMode 0xF7#8 0x0B#8 [], []) := by decide
theorem test_decode_reservedMode_14 : decode Config.document
    [0b11110100#8, 0b01010110#8, 0b00001110#8, 0b10101000#8] = .ok (.reservedMode 0xF4#8 0x0E#8 [], []) := by decide

/-- V-DEC-3, V-DEC-4, V-COR-3, V-COR-8. -/
theorem test_decode_rejects_by_name :
    decode Config.document [0x00#8, 0x12#8, 0x55#8, 0xAA#8, 0xCC#8] = .error .noFrame ∧
    decode Config.document [0xF4#8, 0x55#8] = .error (.framing .invalidLength) ∧
    decode Config.document [0xF4#8, 0x57#8, 0x04#8, 0x01#8, 0xB1#8] = .error (.framing .checksumMismatch) ∧
    decode Config.document [0xF4#8, 0x58#8, 0x04#8, 0x01#8, 0xB0#8] = .error (.truncated .waitChecksum) := by decide

/-- V-DEC-11: two frames back to back; the second is left over. -/
theorem test_decode_leaves_the_rest : decode Config.document
    [0xF7#8, 0x56#8, 0x01#8, 0xB2#8, 0xF1#8, 0x56#8, 0x08#8, 0xB1#8] =
      .ok (.mode1Datastream 0xF7#8 [], [0xF1#8, 0x56#8, 0x08#8, 0xB1#8]) := by decide

theorem test_encode_seedResponse : encodeInstr Config.document (.seedResponse 0xF1#8 0xFF#8 0xAB#8 0xCD#8) =
    some [0b11110001#8, 0b01011001#8, 0b00001101#8, 0b11111111#8, 0b10101011#8, 0b11001101#8, 0b00110010#8] := by decide
theorem test_encode_keyResultAccepted : encodeInstr Config.document (.keyResultAccepted 0xF1#8) =
    some [0b11110001#8, 0b01010111#8, 0b00001101#8, 0b10101010#8, 0b00000001#8] := by decide
theorem test_encode_keyResultRejected : encodeInstr Config.document (.keyResultRejected 0xF4#8) =
    some [0b11110100#8, 0b01010111#8, 0b00001101#8, 0b11001100#8, 0b11011100#8] := by decide
theorem test_encode_responseRejected : encodeInstr Config.document (.responseRejected 0xF4#8 5#8) =
    some [0b11110100#8, 0b01010111#8, 0b00000101#8, 0b11001100#8, 0b11100100#8] := by decide
theorem test_encode_responseFail : encodeInstr Config.document (.responseFail 0xF7#8 0x0B#8) =
    some [0b11110111#8, 0b01010111#8, 0b00001011#8, 0b01010101#8, 0b01010010#8] := by decide
theorem test_encode_mode4Reply : encodeInstr Config.document (.mode4Reply 0xF4#8 0x7F#8) =
    some [0b11110100#8, 0b01010111#8, 0b00000100#8, 0b01111111#8, 0b00110010#8] := by decide
theorem test_encode_handlerReply : encodeInstr Config.document (.handlerReply 0xF4#8 1#8 [0x10#8, 0x20#8]) =
    some [0b11110100#8, 0b01011000#8, 0b00000001#8, 0b00010000#8, 0b00100000#8, 0b10000011#8] := by decide
theorem test_encode_function_rows_have_no_bytes :
    encodeInstr Config.document (.checksum []) = none ∧ encodeInstr Config.document (.encode 0#8 0#8 []) = none ∧
    encodeInstr Config.document (.computeKey 0#8 0#8) = none ∧ encodeInstr Config.document (.translate 1#8 0#16) = none ∧
    encodeInstr Config.document (.patchCheck 0#16 0) = none ∧
    encodeInstr Config.document (.patchWrite 1#8 0#16 []) = none := by decide
theorem test_encode_event_rows_have_no_bytes :
    encodeInstr Config.document .powerOn = none ∧ encodeInstr Config.document .connect = none ∧
    encodeInstr Config.document .busReset = none ∧ encodeInstr Config.document .disconnect = none ∧
    encodeInstr Config.document .timeout = none ∧ encodeInstr Config.document .cancel = none := by decide
theorem test_decodeRx_selects_the_row_of_the_state :
    decodeRx .waitDevice 0xF4#8 = .rxWaitDevice 0xF4#8 ∧ decodeRx .waitLength 0x57#8 = .rxWaitLength 0x57#8 ∧
    decodeRx .waitMode 0x0D#8 = .rxWaitMode 0x0D#8 ∧ decodeRx .waitPayload 0x01#8 = .rxWaitPayload 0x01#8 ∧
    decodeRx .waitChecksum 0xA7#8 = .rxWaitChecksum 0xA7#8 := by decide

/-- Rows of opcode_table.json by their match values: the header view, deviceId 0, payload of zeros. -/
theorem test_decodeTableWord :
    decodeTableWord 16 0x570D = some (.seedRequest 0#8 0#8) ∧
    decodeTableWord 24 0xF4580D = some (.keySubmit 0xF4#8 0#16) ∧
    decodeTableWord 8 0x0D = some (.secMalformed 0#8 []) ∧
    decodeTableWord 8 0x0A = some (.mode10DiagNvram 0#8 []) ∧
    decodeTableWord 24 0xF45806 = some (.mode6UploadExecute 0xF4#8 [0#8, 0#8]) ∧
    decodeTableWord 24 0 = some (.reservedMode 0#8 0#8 []) := by decide

/-! ### One step each -/

/-- What a step left on `tx`, `err`, the handler ports and in the session; `none` for a stop. -/
def seen (o : Host.Outcome State Fault Refusal) :
    Option (List Byte × Option ErrKind × List HandlerCall × Session) :=
  match o with
  | .next s => some (s.tx, s.err, s.calls, s.sess)
  | .fault _ => none
  | .refused _ => none

/-- The decoder after a step and what it reported. -/
def decoderSeen (o : Host.Outcome State Fault Refusal) : Option (Decoder × Option ErrKind) :=
  match o with
  | .next s => some (s.rx, s.err)
  | .fault _ => none
  | .refused _ => none

/-- The answer of a function port and the write requests. -/
def answerSeen (o : Host.Outcome State Fault Refusal) : Option (List FnResult × Option ErrKind × List (Nat × Byte)) :=
  match o with
  | .next s => some (s.fnOut, s.err, s.img)
  | .fault _ => none
  | .refused _ => none

/-- A block in this session, all but the checksum byte `c` of a frame received, `c` next. -/
def about (sess : Session) (dev len mode : Byte) (pay : List Byte) (c : Byte) : State :=
  { State.reset with sess := sess, rx := .waitChecksum dev len mode pay, inbox := [.rx c] }

/-- A block in this decoder state with one byte to come. -/
def receiving (d : Decoder) (b : Byte) : State := { State.reset with rx := d, inbox := [.rx b] }

/-- A reset block with one function request to come. -/
def asking (r : FnRequest) : State := { State.reset with inbox := [.fn r] }

/-- A block in the middle of a payload, UNLOCKED, with one event to come (V-EVT-2, V-EVT-5, V-EVT-6). -/
def interrupted (e : Event) : State :=
  { State.reset with rx := .waitPayload 0xF4#8 0x5A#8 6#8 [1#8, 2#8], sess := .unlocked 0x12#8 0x34#8, inbox := [.evt e] }

/-- V-SEC-1. -/
theorem test_step_seedRequest_locked :
    seen (step { about .locked 0xF4#8 0x57#8 0x0D#8 [0x01#8] 0xA7#8 with drawIn := [0x1234#16] }) =
      some ([0xF4#8, 0x59#8, 0x0D#8, 0x01#8, 0x12#8, 0x34#8, 0x5F#8], none, [], .seedIssued 0x12#8 0x34#8) := by decide
/-- V-SEC-12. -/
theorem test_step_seedRequest_unlocked :
    seen (step (about (.unlocked 0x12#8 0x34#8) 0xF4#8 0x57#8 0x0D#8 [0x01#8] 0xA7#8)) =
      some ([0xF4#8, 0x57#8, 0x0D#8, 0xCC#8, 0xDC#8], none, [], .unlocked 0x12#8 0x34#8) := by decide
/-- V-SEC-7. -/
theorem test_step_keySubmit_match :
    seen (step (about (.seedIssued 0xAB#8 0xCD#8) 0xF1#8 0x58#8 0x0D#8 [0xC5#8, 0xA2#8] 0x43#8)) =
      some ([0xF1#8, 0x57#8, 0x0D#8, 0xAA#8, 0x01#8], none, [], .unlocked 0xAB#8 0xCD#8) := by decide
/-- V-SEC-5: the key of the unswapped seed. -/
theorem test_step_keySubmit_unswapped :
    seen (step (about (.seedIssued 0x12#8 0x34#8) 0xF4#8 0x58#8 0x0D#8 [0x81#8, 0x19#8] 0x0D#8)) =
      some ([0xF4#8, 0x57#8, 0x0D#8, 0xCC#8, 0xDC#8], none, [], .locked) := by decide
/-- V-SEC-14 in SEED_ISSUED. -/
theorem test_step_secMalformed :
    seen (step (about (.seedIssued 0x12#8 0x34#8) 0xF4#8 0x56#8 0x0D#8 [] 0xA9#8)) =
      some ([0xF4#8, 0x57#8, 0x0D#8, 0x55#8, 0x53#8], some .unknownMode, [], .seedIssued 0x12#8 0x34#8) := by decide
/-- V-DSP-2. -/
theorem test_step_mode1 :
    seen (step { about .locked 0xF4#8 0x57#8 0x01#8 [0x00#8] 0xB4#8 with replyIn := [⟨[], some [0x10#8, 0x20#8]⟩] }) =
      some ([0xF4#8, 0x58#8, 0x01#8, 0x10#8, 0x20#8, 0x83#8], none, [.frame .telemetry 0xF4#8 1#8 [0x00#8]],
        .locked) := by decide
/-- V-DSP-13. -/
theorem test_step_mode2 :
    seen (step { about .locked 0xF9#8 0x59#8 0x02#8 [1#8, 2#8, 3#8] 0xA6#8 with replyIn := [⟨[], none⟩] }) =
      some ([], none, [.frame (.ext 2#8) 0xF9#8 2#8 [1#8, 2#8, 3#8]], .locked) := by decide
/-- R169, no reply. -/
theorem test_step_mode3 :
    seen (step { about .locked 0xF4#8 0x56#8 0x03#8 [] 0xB3#8 with replyIn := [⟨[], none⟩] }) =
      some ([], none, [.frame (.ext 3#8) 0xF4#8 3#8 []], .locked) := by decide
/-- V-DSP-5: extra payload bytes are ignored. -/
theorem test_step_mode4 :
    seen (step { about .locked 0xF4#8 0x59#8 0x04#8 [0x01#8, 0xFF#8, 0xFF#8] 0xB0#8 with statusIn := [⟨[], 0x00#8⟩] }) =
      some ([0xF4#8, 0x57#8, 0x04#8, 0x00#8, 0xB1#8], none, [.output 0x01#8], .locked) := by decide
/-- V-DSP-6. -/
theorem test_step_mode4_empty :
    seen (step (about .locked 0xF4#8 0x56#8 0x04#8 [] 0xB2#8)) =
      some ([0xF4#8, 0x57#8, 0x04#8, 0x55#8, 0x5C#8], some .unknownMode, [], .locked) := by decide
/-- V-DSP-7 in SEED_ISSUED. -/
theorem test_step_mode5_rejected :
    seen (step (about (.seedIssued 0x12#8 0x34#8) 0xF4#8 0x56#8 0x05#8 [] 0xB1#8)) =
      some ([0xF4#8, 0x57#8, 0x05#8, 0xCC#8, 0xE4#8], some .unauthorizedAccess, [], .seedIssued 0x12#8 0x34#8) := by
  decide
/-- V-DSP-15. -/
theorem test_step_mode5_called :
    seen (step { about (.unlocked 0x12#8 0x34#8) 0xF4#8 0x56#8 0x05#8 [] 0xB1#8 with replyIn := [⟨[], none⟩] }) =
      some ([], none, [.frame .flashEntry 0xF4#8 5#8 []], .unlocked 0x12#8 0x34#8) := by decide
/-- V-DSP-8. -/
theorem test_step_mode6_rejected :
    seen (step (about .locked 0xF4#8 0x58#8 0x06#8 [0xDE#8, 0xAD#8] 0x23#8)) =
      some ([0xF4#8, 0x57#8, 0x06#8, 0xCC#8, 0xE3#8], some .unauthorizedAccess, [], .locked) := by decide
/-- V-DSP-16. -/
theorem test_step_mode6_called :
    seen (step { about (.unlocked 0x12#8 0x34#8) 0xF4#8 0x58#8 0x06#8 [0xDE#8, 0xAD#8] 0x23#8 with
        replyIn := [⟨[], some [0x00#8]⟩] }) =
      some ([0xF4#8, 0x57#8, 0x06#8, 0x00#8, 0xAF#8], none, [.frame .upload 0xF4#8 6#8 [0xDE#8, 0xAD#8]],
        .unlocked 0x12#8 0x34#8) := by decide
/-- R169, no reply. -/
theorem test_step_mode7 :
    seen (step { about .locked 0xF4#8 0x56#8 0x07#8 [] 0xAF#8 with replyIn := [⟨[], none⟩] }) =
      some ([], none, [.frame (.ext 7#8) 0xF4#8 7#8 []], .locked) := by decide
/-- V-DSP-14. -/
theorem test_step_mode8 :
    seen (step { about .locked 0xF1#8 0x56#8 0x08#8 [] 0xB1#8 with replyIn := [⟨[], none⟩] }) =
      some ([], none, [.frame (.ext 8#8) 0xF1#8 8#8 []], .locked) := by decide
/-- R169, no reply. -/
theorem test_step_mode9 :
    seen (step { about .locked 0xF4#8 0x56#8 0x09#8 [] 0xAD#8 with replyIn := [⟨[], none⟩] }) =
      some ([], none, [.frame (.ext 9#8) 0xF4#8 9#8 []], .locked) := by decide
/-- V-DSP-17. -/
theorem test_step_mode10 :
    seen (step { about .locked 0xF4#8 0x57#8 0x0A#8 [0x00#8] 0xAB#8 with replyIn := [⟨[], some [0xCC#8]⟩] }) =
      some ([0xF4#8, 0x57#8, 0x0A#8, 0xCC#8, 0xDF#8], none, [.frame (.ext 10#8) 0xF4#8 10#8 [0x00#8]], .locked) := by
  decide
/-- V-DSP-9. -/
theorem test_step_reservedMode :
    seen (step (about .locked 0xF7#8 0x56#8 0x0B#8 [] 0xA8#8)) =
      some ([0xF7#8, 0x57#8, 0x0B#8, 0x55#8, 0x52#8], some .unknownMode, [], .locked) := by decide
/-- V-DSP-12. -/
theorem test_step_reservedMode_payload_ignored :
    seen (step (about .locked 0xF4#8 0x5A#8 0xFF#8 [0xFF#8, 0xFF#8, 0xFF#8, 0xFF#8] 0xB7#8)) =
      some ([0xF4#8, 0x57#8, 0xFF#8, 0x55#8, 0x61#8], some .unknownMode, [], .locked) := by decide
/-- D38: a reply of 170 bytes is refused by ENCODE. -/
theorem test_exec_handlerReply_too_long :
    seen (exec (.handlerReply 0xF4#8 1#8 (List.replicate 170 0#8)) State.reset) =
      some ([], some .invalidLength, [], .locked) := by decide +kernel
/-- V-SEC-10, the reply frame. -/
theorem test_exec_seedResponse :
    seen (exec (.seedResponse 0xF4#8 0x01#8 0xBE#8 0xEF#8) State.reset) =
      some ([0xF4#8, 0x59#8, 0x0D#8, 0x01#8, 0xBE#8, 0xEF#8, 0xF8#8], none, [], .locked) := by decide
/-- V-SEC-3, V-SEC-4, V-DSP-8, V-DSP-11, V-DSP-3: the reply frames. -/
theorem test_exec_short_replies :
    seen (exec (.keyResultAccepted 0xF4#8) State.reset) =
      some ([0xF4#8, 0x57#8, 0x0D#8, 0xAA#8, 0xFE#8], none, [], .locked) ∧
    seen (exec (.keyResultRejected 0xF4#8) State.reset) =
      some ([0xF4#8, 0x57#8, 0x0D#8, 0xCC#8, 0xDC#8], none, [], .locked) ∧
    seen (exec (.responseRejected 0xF4#8 6#8) State.reset) =
      some ([0xF4#8, 0x57#8, 0x06#8, 0xCC#8, 0xE3#8], none, [], .locked) ∧
    seen (exec (.responseFail 0xF4#8 0x0C#8) State.reset) =
      some ([0xF4#8, 0x57#8, 0x0C#8, 0x55#8, 0x54#8], none, [], .locked) ∧
    seen (exec (.mode4Reply 0xF4#8 0x00#8) State.reset) =
      some ([0xF4#8, 0x57#8, 0x04#8, 0x00#8, 0xB1#8], none, [], .locked) :=
  ⟨by decide, by decide, by decide, by decide, by decide⟩

/-- V-DEC-1 and V-DEC-3, first bytes. -/
theorem test_step_rxWaitDevice :
    decoderSeen (step (receiving .waitDevice 0xF4#8)) = some (.waitLength 0xF4#8, none) ∧
    decoderSeen (step (receiving .waitDevice 0x55#8)) = some (.waitDevice, none) :=
  ⟨by decide, by decide⟩

/-- V-DEC-4: the largest illegal length byte. -/
theorem test_step_rxWaitLength_illegal :
    decoderSeen (step (receiving (.waitLength 0xF4#8) 0x55#8)) = some (.waitDevice, some .invalidLength) := by decide
/-- R133, the smallest and the largest legal length byte. -/
theorem test_step_rxWaitLength_legal :
    decoderSeen (step (receiving (.waitLength 0xF4#8) 0x56#8)) = some (.waitMode 0xF4#8 0x56#8, none) ∧
    decoderSeen (step (receiving (.waitLength 0xF4#8) 0xFF#8)) = some (.waitMode 0xF4#8 0xFF#8, none) :=
  ⟨by decide, by decide⟩

/-- V-DEC-1 (n = 0) and V-DEC-2 (n = 2), third bytes. -/
theorem test_step_rxWaitMode :
    decoderSeen (step (receiving (.waitMode 0xF4#8 0x56#8) 0x01#8)) =
      some (.waitChecksum 0xF4#8 0x56#8 0x01#8 [], none) ∧
    decoderSeen (step (receiving (.waitMode 0xF4#8 0x58#8) 0x06#8)) =
      some (.waitPayload 0xF4#8 0x58#8 0x06#8 [], none) :=
  ⟨by decide, by decide⟩

/-- V-DEC-2, the two payload bytes. -/
theorem test_step_rxWaitPayload :
    decoderSeen (step (receiving (.waitPayload 0xF4#8 0x58#8 0x06#8 []) 0xDE#8)) =
      some (.waitPayload 0xF4#8 0x58#8 0x06#8 [0xDE#8], none) ∧
    decoderSeen (step (receiving (.waitPayload 0xF4#8 0x58#8 0x06#8 [0xDE#8]) 0xAD#8)) =
      some (.waitChecksum 0xF4#8 0x58#8 0x06#8 [0xDE#8, 0xAD#8], none) :=
  ⟨by decide, by decide⟩

/-- V-DEC-8. -/
theorem test_step_rxWaitChecksum_mismatch :
    decoderSeen (step (receiving (.waitChecksum 0xF4#8 0x56#8 0x05#8 []) 0xB0#8)) =
      some (.waitDevice, some .checksumMismatch) := by decide

/-- V-CHK. -/
theorem test_step_checksum :
    answerSeen (step (asking (.checksum [0xF4#8, 0x56#8, 0x01#8]))) = some ([.byte 0xB5#8], none, []) ∧
    answerSeen (step (asking (.checksum []))) = some ([.byte 0#8], none, []) ∧
    answerSeen (step (asking (.checksum [0x80#8, 0x80#8]))) = some ([.byte 0#8], none, []) :=
  ⟨by decide, by decide, by decide⟩

/-- V-ENC, an unknown id and a frame as payload. -/
theorem test_step_encode :
    answerSeen (step (asking (.encode 0x10#8 1#8 []))) =
      some ([.bytes [0x10#8, 0x56#8, 0x01#8, 0x99#8]], none, []) ∧
    answerSeen (step (asking (.encode 0xF4#8 6#8 [0xF4#8, 0x56#8, 0x01#8, 0xB5#8]))) =
      some ([.bytes [0xF4#8, 0x5A#8, 0x06#8, 0xF4#8, 0x56#8, 0x01#8, 0xB5#8, 0xAC#8]], none, []) :=
  ⟨by decide, by decide⟩

/-- V-ENC, 169 zero bytes (last byte 07) and 170 bytes. -/
theorem test_encode_longest :
    (encodeFrame Config.document 0xF4#8 6#8 (List.replicate 169 0#8)).map (fun f => (f.length, f[1]?, f[172]?)) =
      some (173, some 0xFF#8, some 0x07#8) ∧
    answerSeen (step (asking (.encode 0xF4#8 1#8 (List.replicate 170 0#8)))) =
      some ([.error .invalidLength], some .invalidLength, []) :=
  ⟨by decide +kernel, by decide +kernel⟩

/-- V-KEY: the document's two examples, the first wrap, and the swap. -/
theorem test_step_computeKey :
    answerSeen (step (asking (.computeKey 0x00#8 0x00#8))) = some ([.key 0x934D#16], none, []) ∧
    answerSeen (step (asking (.computeKey 0x40#8 0x9C#8))) = some ([.key 0xF70D#16], none, []) ∧
    answerSeen (step (asking (.computeKey 0x4E#8 0x93#8))) = some ([.key 0xFFFF#16], none, []) ∧
    answerSeen (step (asking (.computeKey 0x12#8 0x34#8))) = some ([.key 0x5F3B#16], none, []) :=
  ⟨by decide +kernel, by decide +kernel, by decide +kernel, by decide +kernel⟩

/-- V-TRN. -/
theorem test_step_translate :
    answerSeen (step (asking (.translate 2#8 0x8000#16))) = some ([.offset 0x10000], none, []) ∧
    answerSeen (step (asking (.translate 3#8 0x8005#16))) = some ([.offset 0x18005], none, []) ∧
    answerSeen (step (asking (.translate 1#8 0xFFFF#16))) = some ([.offset 0x7FFF], none, []) ∧
    answerSeen (step (asking (.translate 3#8 0x7FFF#16))) = some ([.offset 0x7FFF], none, []) :=
  ⟨by decide, by decide, by decide, by decide⟩

/-- V-TRN: the bank is checked below 0x8000 too. -/
theorem test_step_translate_bank :
    answerSeen (step (asking (.translate 0#8 0x0100#16))) =
      some ([.error .bankOutOfRange], some .bankOutOfRange, []) := by decide
/-- V-PAT. -/
theorem test_step_patchCheck_ok :
    answerSeen (step (asking (.patchCheck 0x5D00#16 0x300))) = some ([.ok], none, []) ∧
    answerSeen (step (asking (.patchCheck 0x5FFF#16 1))) = some ([.ok], none, []) ∧
    answerSeen (step (asking (.patchCheck 0x6000#16 0))) = some ([.ok], none, []) :=
  ⟨by decide, by decide, by decide⟩

/-- V-PAT. -/
theorem test_step_patchCheck_overflow :
    answerSeen (step (asking (.patchCheck 0x5D00#16 0x301))) =
      some ([.error .patchOverflow], some .patchOverflow, []) ∧
    answerSeen (step (asking (.patchCheck 0x5CFF#16 0))) =
      some ([.error .patchOverflow], some .patchOverflow, []) ∧
    answerSeen (step (asking (.patchCheck 0xFFFF#16 0x300))) =
      some ([.error .patchOverflow], some .patchOverflow, []) :=
  ⟨by decide, by decide, by decide⟩

/-- V-PAT. -/
theorem test_step_patchWrite :
    answerSeen (step (asking (.patchWrite 1#8 0x5D00#16 [0x7E#8, 0x5D#8, 0x10#8]))) =
      some ([.ok], none, [(0x5D00, 0x7E#8), (0x5D01, 0x5D#8), (0x5D02, 0x10#8)]) ∧
    answerSeen (step (asking (.patchWrite 3#8 0x5FFF#16 [0x39#8]))) = some ([.ok], none, [(0x5FFF, 0x39#8)]) :=
  ⟨by decide, by decide⟩

/-- V-PAT: all or nothing; the window guard is tested first. -/
theorem test_step_patchWrite_refused :
    answerSeen (step (asking (.patchWrite 2#8 0x5FFF#16 [0x39#8, 0x39#8]))) =
      some ([.error .patchOverflow], some .patchOverflow, []) ∧
    answerSeen (step (asking (.patchWrite 0#8 0x5D00#16 [0#8]))) =
      some ([.error .bankOutOfRange], some .bankOutOfRange, []) ∧
    answerSeen (step (asking (.patchWrite 0#8 0x8000#16 [0#8]))) =
      some ([.error .patchOverflow], some .patchOverflow, []) :=
  ⟨by decide, by decide, by decide⟩

/-! ### A handler's own function requests, inside the step that calls it (10_state.md R35, 44_translator.md R227) -/

/-- An UNLOCKED block about to receive the checksum byte of the mode-6 request of V-DSP-16; its handler makes these requests
and gives this reply. -/
def uploading (reqs : List FnRequest) (reply : Option (List Byte)) : State :=
  { about (.unlocked 0x12#8 0x34#8) 0xF4#8 0x58#8 0x06#8 [0xDE#8, 0xAD#8] 0x23#8 with replyIn := [⟨reqs, reply⟩] }

/-- The example of R226, made by the handler: the writes and the answer appear in the RX step, the reply is framed. -/
theorem test_step_handler_patches :
    answerSeen (step (uploading [.patchWrite 1#8 0x5D00#16 [0x7E#8, 0x5D#8, 0x10#8]] (some [0x00#8]))) =
      some ([.ok], none, [(0x5D00, 0x7E#8), (0x5D01, 0x5D#8), (0x5D02, 0x10#8)]) ∧
    seen (step (uploading [.patchWrite 1#8 0x5D00#16 [0x7E#8, 0x5D#8, 0x10#8]] (some [0x00#8]))) =
      some ([0xF4#8, 0x57#8, 0x06#8, 0x00#8, 0xAF#8], none, [.frame .upload 0xF4#8 6#8 [0xDE#8, 0xAD#8]],
        .unlocked 0x12#8 0x34#8) :=
  ⟨by decide, by decide⟩
/-- R257: of several failing checks the first decides the kind; ENCODE's check of the reply comes last. -/
theorem test_step_handler_first_kind :
    answerSeen (step (uploading [.translate 0#8 0#16, .patchCheck 0x8000#16 1] (some (List.replicate 170 0#8)))) =
      some ([.error .bankOutOfRange, .error .patchOverflow], some .bankOutOfRange, []) ∧
    answerSeen (step (uploading [.checksum []] (some (List.replicate 170 0#8)))) =
      some ([.byte 0#8], some .invalidLength, []) :=
  ⟨by decide +kernel, by decide +kernel⟩
/-- The callback of mode 4 may ask too. -/
theorem test_step_output_patches :
    answerSeen (step { about .locked 0xF4#8 0x57#8 0x04#8 [0x01#8] 0xB0#8 with
      statusIn := [⟨[.patchWrite 2#8 0x5FFF#16 [0x39#8]], 0x00#8⟩] }) =
      some ([.ok], none, [(0x5FFF, 0x39#8)]) := by decide
/-- A profile whose frames hold no payload byte: the first kind raised stays (R257; log 19), nothing is transmitted; checksums
by hand. -/
theorem test_step_reply_that_does_not_fit :
    seen (step { about .locked 0x10#8 0x01#8 0x0B#8 [] 0xE4#8 with cfg := { variant with maxPayload := 0 } }) =
      some ([], some .unknownMode, [], .locked) ∧
    seen (step { about .locked 0x10#8 0x01#8 0x06#8 [] 0xE9#8 with cfg := { variant with maxPayload := 0 } }) =
      some ([], some .unauthorizedAccess, [], .locked) ∧
    seen (step { about .locked 0x10#8 0x01#8 0x0D#8 [] 0xE2#8 with cfg := { variant with maxPayload := 0 } }) =
      some ([], some .unknownMode, [], .locked) :=
  ⟨by decide, by decide, by decide⟩
/-- A bank code is an argument (R9): the variant's code 0x43 is BANK3, and 3 names no bank. -/
theorem test_step_translate_variant :
    answerSeen (step { asking (.translate 0x43#8 0x8005#16) with cfg := variant }) =
      some ([.offset 0x18005], none, []) ∧
    answerSeen (step { asking (.translate 3#8 0x8005#16) with cfg := variant }) =
      some ([.error .bankOutOfRange], some .bankOutOfRange, []) :=
  ⟨by decide, by decide⟩

/-- The decoder and the session after a step. -/
def registersSeen (o : Host.Outcome State Fault Refusal) : Option (Decoder × Session) :=
  match o with
  | .next s => some (s.rx, s.sess)
  | .fault _ => none
  | .refused _ => none

/-- V-EVT-1 to V-EVT-4. -/
theorem test_step_resetting_events :
    registersSeen (step (interrupted .powerOn)) = some (.waitDevice, .locked) ∧
    registersSeen (step (interrupted .connect)) = some (.waitDevice, .locked) ∧
    registersSeen (step (interrupted .busReset)) = some (.waitDevice, .locked) ∧
    registersSeen (step (interrupted .disconnect)) = some (.waitDevice, .locked) :=
  ⟨by decide, by decide, by decide, by decide⟩

/-- V-EVT-5. -/
theorem test_step_timeout :
    registersSeen (step (interrupted .timeout)) = some (.waitPayload 0xF4#8 0x5A#8 6#8 [1#8, 2#8], .locked) := by decide
/-- V-EVT-6. -/
theorem test_step_cancel :
    registersSeen (step (interrupted .cancel)) = some (.waitDevice, .unlocked 0x12#8 0x34#8) := by decide

/-- The request placed by `withFetchWord` is the one the next step answers. -/
theorem test_withFetchWord_runs_next :
    seen (step (State.reset.withFetchWord 24 0xF4580D)) =
      some ([0xF4#8, 0x57#8, 0x0D#8, 0xCC#8, 0xDC#8], none, [], .locked) ∧
    seen (step (State.reset.withFetchWord 8 5)) =
      some ([0x00#8, 0x57#8, 0x05#8, 0xCC#8, 0xD8#8], some .unauthorizedAccess, [], .locked) :=
  ⟨by decide, by decide⟩

/-! ### Witnesses: each theorem shows values that meet the hypotheses of the obligation it names, clause by clause, at the
boundaries of their ranges. -/

/-- The frame `F4 56 01 B5` (V-ENC), the empty payload. -/
theorem test_witness_shortest_frame : IsFrame Config.document 0xF4#8 1#8 [] [0xF4#8, 0x56#8, 0x01#8, 0xB5#8] :=
  ⟨by decide, by decide, 0xB5#8, rfl, by decide⟩

/-- The frame `F4 FF 06 00 … 00 07` (V-ENC), 169 payload bytes. -/
theorem test_witness_longest_frame : IsFrame Config.document 0xF4#8 6#8 (List.replicate 169 0#8)
    ([0xF4#8, 0xFF#8, 0x06#8] ++ List.replicate 169 0#8 ++ [0x07#8]) :=
  ⟨by decide +kernel, by decide +kernel, 0x07#8, by decide +kernel, by decide +kernel⟩

theorem test_witness_StepRunsTheSelectedOperation :
    (∀ d b, (receiving d b).inbox = .rx b :: []) ∧ State.reset.inbox = [] ∧
    (receiving .waitDevice 0xF4#8).rxState = .waitDevice ∧
    (receiving (.waitLength 0xF4#8) 0x57#8).rxState = .waitLength ∧
    (receiving (.waitMode 0xF4#8 0x57#8) 0x0D#8).rxState = .waitMode ∧
    (receiving (.waitPayload 0xF4#8 0x57#8 0x0D#8 []) 0x01#8).rxState = .waitPayload ∧
    (receiving (.waitChecksum 0xF4#8 0x57#8 0x0D#8 [0x01#8]) 0xA7#8).rxState = .waitChecksum ∧
    (interrupted .cancel).inbox = .evt .cancel :: [] ∧
    (asking (.checksum [])).inbox = .fn (.checksum []) :: [] :=
  ⟨fun _ _ => rfl, by decide⟩

theorem test_witness_RxRowFaultsOutsideItsState :
    (receiving (.waitLength 0xF4#8) 0#8).rxState ≠ .waitDevice ∧ State.reset.rxState ≠ .waitLength ∧
    State.reset.rxState ≠ .waitMode ∧ State.reset.rxState ≠ .waitPayload ∧ State.reset.rxState ≠ .waitChecksum := by
  decide

/-- A frame with this payload and length byte, for the witnesses of the header view. -/
def frameWith (len : Byte) (pay : List Byte) : Frame :=
  { deviceId := 0xF4#8, lengthByte := len, mode := 13#8, payload := pay, checksum := 0#8 }

theorem test_witness_DecoderSelectsTheFirstMatchingRow :
    ((frameWith 0x56#8 []).payload.length ≤ 169 ∧
      (frameWith 0x56#8 []).lengthByte = BitVec.ofNat 8 (86 + (frameWith 0x56#8 []).payload.length)) ∧
    ((frameWith 0xFF#8 (List.replicate 169 0#8)).payload.length ≤ 169 ∧
      (frameWith 0xFF#8 (List.replicate 169 0#8)).lengthByte =
        BitVec.ofNat 8 (86 + (frameWith 0xFF#8 (List.replicate 169 0#8)).payload.length)) := by decide +kernel

theorem test_witness_EveryRequestDecodesFromItsEncoding :
    [Instr.seedRequest 0xF4#8 0xFF#8, .keySubmit 0xF9#8 0xFFFF#16, .secMalformed 0xF7#8 [],
     .secMalformed 0xF7#8 [1#8, 2#8, 3#8], .mode1Datastream 0xF1#8 (List.replicate 169 0#8), .mode2FreezeFrame 0xF0#8 [],
     .mode3DtcRead 0xF4#8 [], .mode4ActuatorTest 0xF4#8 [], .mode5FlashEntry 0xF4#8 [],
     .mode6UploadExecute 0xF4#8 (List.replicate 169 0xFF#8), .mode7ClearDtc 0xF4#8 [], .mode8DisableChatter 0xF4#8 [],
     .mode9EnableChatter 0xF4#8 [], .mode10DiagNvram 0xF4#8 [], .reservedMode 0xF4#8 0#8 [],
     .reservedMode 0xF4#8 0xFF#8 []].all (Instr.wf Config.document) = true := by decide +kernel

theorem test_witness_ReplyFramesKeepEveryField :
    (encodeInstr Config.document (.seedResponse 1#8 2#8 3#8 4#8)).isSome = true ∧
    (encodeInstr Config.document (.keyResultAccepted 0xF4#8)).isSome = true ∧
    (encodeInstr Config.document (.keyResultRejected 0xF4#8)).isSome = true ∧
    (encodeInstr Config.document (.responseRejected 0xF4#8 5#8)).isSome = true ∧
    (encodeInstr Config.document (.responseFail 0xF4#8 0x0B#8)).isSome = true ∧
    (encodeInstr Config.document (.mode4Reply 0xF4#8 0#8)).isSome = true ∧
    (encodeInstr Config.document (.handlerReply 0xF4#8 6#8 (List.replicate 169 0#8))).isSome = true := by decide +kernel

theorem test_witness_DecodingAnEncodedFrameDeliversIt :
    (0xF4#8 : Byte) ∈ Config.document.knownIds ∧ IsFrame Config.document 0xF4#8 1#8 [] [0xF4#8, 0x56#8, 0x01#8, 0xB5#8] ∧
    ∃ f, IsFrame Config.document 0xF4#8 6#8 (List.replicate 169 0#8) f :=
  ⟨by decide, test_witness_shortest_frame, _, test_witness_longest_frame⟩

theorem test_witness_ReceivingAFrameRunsItsRequest : ∃ s : State,
    s.rx = .waitDevice ∧ 0xF4#8 ∈ s.cfg.knownIds ∧ IsFrame Config.document 0xF4#8 1#8 [] [0xF4#8, 0x56#8, 0x01#8, 0xB5#8] ∧
    s.inbox = [0xF4#8, 0x56#8, 0x01#8, 0xB5#8].map Input.rx ++ [.evt .timeout] :=
  ⟨{ State.reset with inbox := [0xF4#8, 0x56#8, 0x01#8, 0xB5#8].map Input.rx ++ [.evt .timeout] }, rfl, by decide,
    test_witness_shortest_frame, rfl⟩

theorem test_witness_DeviceByteOpensAFrameOrIsIgnored :
    State.reset.rx = .waitDevice ∧ 0xF0#8 ∈ State.reset.cfg.knownIds ∧ 0xF5#8 ∉ State.reset.cfg.knownIds := by decide

theorem test_witness_LengthByteIsCheckedAndLatched :
    (receiving (.waitLength 0xF4#8) 0x55#8).rx = .waitLength 0xF4#8 ∧
    (receiving (.waitLength 0xF4#8) 0x55#8).cfg.lenBias + 1 = 86 ∧
    (0x55#8 : Byte).toNat < 86 ∧ 86 ≤ (0x56#8 : Byte).toNat ∧ 86 ≤ (0xFF#8 : Byte).toNat := by decide

theorem test_witness_ModeByteIsLatchedUnchecked :
    (receiving (.waitMode 0xF4#8 0x56#8) 1#8).rx = .waitMode 0xF4#8 0x56#8 ∧
    (receiving (.waitMode 0xF4#8 0x56#8) 1#8).rxN = some 0 ∧
    (receiving (.waitMode 0xF4#8 0x57#8) 1#8).rx = .waitMode 0xF4#8 0x57#8 ∧
    (receiving (.waitMode 0xF4#8 0x57#8) 1#8).rxN ≠ some 0 := by decide

theorem test_witness_PayloadBytesAreStoredUntilAllArrived :
    (receiving (.waitPayload 0xF4#8 0x58#8 6#8 [0xDE#8]) 0xAD#8).rx = .waitPayload 0xF4#8 0x58#8 6#8 [0xDE#8] ∧
    (receiving (.waitPayload 0xF4#8 0x58#8 6#8 [0xDE#8]) 0xAD#8).rxN = some ([0xDE#8].length + 1) ∧
    (receiving (.waitPayload 0xF4#8 0x58#8 6#8 []) 0xDE#8).rxN ≠ some (([] : List Byte).length + 1) ∧
    [0xDE#8].length < (0x58#8 : Byte).toNat - (Config.document.lenBias + 1) ∧
    0 < [0xDE#8, 0xAD#8].length ∧
    [0xDE#8, 0xAD#8].length = (0x58#8 : Byte).toNat - (Config.document.lenBias + 1) := by decide

theorem test_witness_ChecksumByteDispatchesOrDrops :
    (receiving (.waitChecksum 0xF4#8 0x56#8 5#8 []) 0xB1#8).rx = .waitChecksum 0xF4#8 0x56#8 5#8 [] ∧
    (0xB1#8 : Byte).toNat = (256 - byteSum ([0xF4#8, 0x56#8, 5#8] ++ []) % 256) % 256 ∧
    (0xB0#8 : Byte).toNat ≠ (256 - byteSum ([0xF4#8, 0x56#8, 5#8] ++ []) % 256) % 256 := by decide

theorem test_witness_DecoderTakesTheAnnouncedNumberOfBytes :
    Config.document.lenBias + 1 ≤ (0x56#8 : Byte).toNat ∧
    [1#8].length < (0x56#8 : Byte).toNat - (Config.document.lenBias + 1) + 2 ∧
    [1#8, 0xB5#8].length = (0x56#8 : Byte).toNat - (Config.document.lenBias + 1) + 2 ∧
    (List.replicate 171 0#8).length = (0xFF#8 : Byte).toNat - (Config.document.lenBias + 1) + 2 := by decide +kernel

theorem test_witness_AFrameIsGoodExactlyWhenItsBytesSumToZero :
    0xF4#8 ∈ Config.document.knownIds ∧ Config.document.lenBias + 1 ≤ (0x57#8 : Byte).toNat ∧
    [1#8].length = (0x57#8 : Byte).toNat - (Config.document.lenBias + 1) ∧
    byteSum ([0xF4#8, 0x57#8, 0x04#8] ++ [1#8] ++ [0xB0#8]) % 256 = 0 := by decide

/-- V-COR-1 (mode), V-COR-3 (checksum), V-COR-4 (another known id). -/
theorem test_witness_SingleByteCorruptionIsReported :
    IsFrame Config.document 0xF4#8 4#8 [1#8] [0xF4#8, 0x57#8, 0x04#8, 0x01#8, 0xB0#8] ∧ 0xF4#8 ∈ Config.document.knownIds ∧
    (2 < 5 ∧ 2 ≠ 1 ∧ [0xF4#8, 0x57#8, 0x04#8, 0x01#8, 0xB0#8][2]? ≠ some 0x05#8) ∧
    (4 < 5 ∧ 4 ≠ 1 ∧ [0xF4#8, 0x57#8, 0x04#8, 0x01#8, 0xB0#8][4]? ≠ some 0xB1#8) ∧
    0xF7#8 ∈ Config.document.knownIds ∧ [0xF4#8, 0x57#8, 0x04#8, 0x01#8, 0xB0#8][0]? ≠ some 0xF7#8 :=
  ⟨⟨by decide, by decide, 0xB0#8, rfl, by decide⟩, by decide, by decide, by decide, by decide, by decide⟩

theorem test_witness_ChecksumLawsHold :
    [1#8, 2#8].Perm [2#8, 1#8] ∧ (0#8 : Byte) ≠ 0x80#8 := ⟨List.Perm.swap _ _ _, by decide⟩

/-- The longest payload that fits and the shortest that does not, by either bound: MAX_PAYLOAD, or the length byte. -/
theorem test_witness_lengths_169_and_170 :
    ((List.replicate 169 0#8).length ≤ Config.document.maxPayload ∧
      Config.document.lenBias + 1 + (List.replicate 169 0#8).length ≤ 255) ∧
    (Config.document.maxPayload < (List.replicate 170 0#8).length ∧
      255 < Config.document.lenBias + 1 + (List.replicate 170 0#8).length) ∧
    Config.document.fits (List.replicate 169 0#8).length = true ∧
    Config.document.fits (List.replicate 170 0#8).length = false ∧ variant.fits 4 = true ∧ variant.fits 5 = false := by
  decide +kernel

/-- For SeedRequestIssuesTheDrawnSeed: a configuration whose frames hold three bytes, and one whose frames do not. -/
theorem test_witness_SeedRequestIssuesTheDrawnSeed :
    State.reset.cfg.fits 3 = true ∧ ({ variant with maxPayload := 2 } : Config.Profile).fits 3 = false ∧
    ({ State.reset with cfg := { variant with maxPayload := 2 } } : State).sessState ≠ .unlocked := by decide

/-- For EncodePortAnswersAFrameOrRefuses, LengthByteIsEightySixPlusPayload, HandlerReplyIsFramedOrRefused. -/
theorem test_witness_LengthByteIsEightySixPlusPayload :
    encodeFrame Config.document 0xF4#8 1#8 [] = some [0xF4#8, 0x56#8, 0x01#8, 0xB5#8] ∧
    (encodeFrame Config.document 0xF4#8 6#8 (List.replicate 169 0#8)).isSome = true := by decide +kernel

/-- For every statement whose hypothesis is the document's configuration (alone, or with a session state). -/
theorem test_witness_document_configuration :
    State.reset.cfg = Config.document ∧ (about .locked 0#8 0#8 0#8 [] 0#8).cfg = Config.document ∧
    (about (.seedIssued 0#8 0#8) 0#8 0#8 0#8 [] 0#8).cfg = Config.document ∧
    (about (.unlocked 0#8 0#8) 0#8 0#8 0#8 [] 0#8).cfg = Config.document := by decide

/-- For SeedRequest…, KeySubmitOutside…, Gate…: each session state, with the document's configuration. -/
theorem test_witness_session_states :
    (State.reset.cfg = Config.document ∧ State.reset.sessState = .locked ∧ State.reset.sessState ≠ .unlocked) ∧
    ((about (.seedIssued 0#8 0#8) 0#8 0#8 0#8 [] 0#8).cfg = Config.document ∧
      (about (.seedIssued 0#8 0#8) 0#8 0#8 0#8 [] 0#8).sessState ≠ .unlocked) ∧
    ((about (.unlocked 0#8 0#8) 0#8 0#8 0#8 [] 0#8).cfg = Config.document ∧
      (about (.unlocked 0#8 0#8) 0#8 0#8 0#8 [] 0#8).sessState = .unlocked) := by decide

theorem test_witness_ComputeKeyIsABijection :
    keyOf Config.document 0x4D#8 0x93#8 = keyOf Config.document 0x4D#8 0x93#8 ∧
    keyOf Config.document 0x12#8 0x34#8 ≠ keyOf Config.document 0x34#8 0x12#8 := by decide +kernel

/-- The right key (V-SEC-3), the right key in one byte only, and the right key of the seed 37709 (V-SEC-9). -/
theorem test_witness_KeySubmitUnlocksExactlyOnEquality :
    (about (.seedIssued 0x12#8 0x34#8) 0#8 0#8 0#8 [] 0#8).cfg = Config.document ∧
    (about (.seedIssued 0x12#8 0x34#8) 0#8 0#8 0#8 [] 0#8).sess = .seedIssued 0x12#8 0x34#8 ∧
    ((0x5F3B#16 : Word16).toNat : Int) = (37709 - (((0x34#8 : Byte).toNat : Int) * 256 + (0x12#8 : Byte).toNat)) % 65536 ∧
    ((0x5F3C#16 : Word16).toNat : Int) ≠ (37709 - (((0x34#8 : Byte).toNat : Int) * 256 + (0x12#8 : Byte).toNat)) % 65536 ∧
    ((0x0000#16 : Word16).toNat : Int) = (37709 - (((0x93#8 : Byte).toNat : Int) * 256 + (0x4D#8 : Byte).toNat)) % 65536 := by
  decide +kernel

theorem test_witness_OnlyTheMatchingKeyUnlocks : ∃ s t : State, s.cfg = Config.document ∧ step s = .next t ∧
    s.sessState ≠ .unlocked ∧ t.sessState = .unlocked ∧ Invariant s :=
  ⟨about (.seedIssued 0x12#8 0x34#8) 0xF4#8 0x58#8 0x0D#8 [0x5F#8, 0x3B#8] 0x0D#8, _, rfl, rfl, by decide, by decide,
    ⟨by decide, by decide, by decide⟩, by decide⟩

theorem test_witness_UnlockedIsLeftOnlyByAResettingEvent : ∃ s t : State, step s = .next t ∧
    s.sessState = .unlocked ∧ t.sess ≠ s.sess :=
  ⟨interrupted .timeout, _, rfl, by decide, by decide⟩

theorem test_witness_KeyAfterASessionResetIsRejected :
    State.reset.cfg = Config.document ∧ Event.powerOn.resetsSession = true ∧ Event.connect.resetsSession = true ∧
    Event.busReset.resetsSession = true ∧ Event.disconnect.resetsSession = true ∧
    Event.timeout.resetsSession = true := by decide

/-- The answers a handler can give, for GatePasses…, Mode1Forwards…, NamedModesForward…. -/
theorem test_witness_handler_answers :
    ({ State.reset with replyIn := [⟨[], none⟩] } : State).nextReply.reply = none ∧
    ({ State.reset with replyIn := [⟨[], some (List.replicate 169 0#8)⟩] } : State).nextReply.reply =
      some (List.replicate 169 0#8) ∧
    ({ State.reset with replyIn := [⟨[.checksum []], some (List.replicate 170 0#8)⟩] } : State).nextReply.reply =
      some (List.replicate 170 0#8) :=
  ⟨rfl, rfl, rfl⟩

theorem test_witness_UploadIsDispatchedOnceUnlocked : ∃ s : State,
    s.cfg = Config.document ∧ s.sess = .locked :=
  ⟨State.reset, rfl, rfl⟩

theorem test_witness_PrivilegedHandlersRunOnlyInUnlocked : ∃ s t : State, step s = .next t ∧
    t.calls = s.calls ++ [.frame .upload 0xF4#8 6#8 [0xDE#8, 0xAD#8]] ∧
    (HandlerCall.frame .upload 0xF4#8 6#8 [0xDE#8, 0xAD#8]).privileged = true :=
  ⟨{ about (.unlocked 0x12#8 0x34#8) 0xF4#8 0x58#8 0x06#8 [0xDE#8, 0xAD#8] 0x23#8 with replyIn := [⟨[], none⟩] }, _, rfl,
    by decide, rfl⟩

theorem test_witness_AStepTransmitsAtMostOneFrameEchoingTheRequest : ∃ s t : State, step s = .next t ∧ t.tx ≠ s.tx :=
  ⟨about .locked 0xF7#8 0x56#8 0x0B#8 [] 0xA8#8, _, rfl, by decide⟩

theorem test_witness_OnlySecurityAndResetsWriteTheSession :
    (∃ s t : State, exec (.keySubmit 0xF4#8 0x5F3B#16) s = .next t ∧ t.sess ≠ s.sess) ∧
    ∃ s t : State, exec (.rxWaitChecksum 0xA7#8) s = .next t ∧ t.sess ≠ s.sess :=
  ⟨⟨about (.seedIssued 0x12#8 0x34#8) 0#8 0#8 0#8 [] 0#8, _, rfl, by decide⟩,
   { about .locked 0xF4#8 0x57#8 0x0D#8 [0x01#8] 0xA7#8 with drawIn := [0x1234#16] }, _, rfl, by decide⟩

theorem test_witness_TranslatePortFollowsTheBankBases :
    (4#8 : Byte) ≠ 1#8 ∧ (4#8 : Byte) ≠ 2#8 ∧ (4#8 : Byte) ≠ 3#8 ∧ (0x7FFF#16 : Word16).toNat < 0x8000 ∧
    0x8000 ≤ (0x8000#16 : Word16).toNat ∧ 0x8000 ≤ (0xFFFF#16 : Word16).toNat ∧
    (variant.bankCode1 ≠ variant.bankCode2 ∧ variant.bankCode1 ≠ variant.bankCode3 ∧
      variant.bankCode2 ≠ variant.bankCode3) ∧ variant.windowBase = 0x8000 ∧
    (1#8 : Byte) ≠ variant.bankCode1 ∧ (1#8 : Byte) ≠ variant.bankCode2 ∧ (1#8 : Byte) ≠ variant.bankCode3 := by decide

theorem test_witness_TranslationLawsHold :
    0x7FFF < 0x8000 ∧ 0x8000 ≠ 0x7FFF ∧ 0xFFFE < 0xFFFF ∧ 0x8000 ≤ 0xFFFF ∧ 0x20000 ≤ 0x20000 := by decide

theorem test_witness_PatchCheckPortGuardsTheWindow :
    (0x5D00 ≤ (0x5D00#16 : Word16).toNat ∧ (0x5D00#16 : Word16).toNat + 0x300 ≤ 0x6000) ∧
    (0x5D00 ≤ (0x6000#16 : Word16).toNat ∧ (0x6000#16 : Word16).toNat + 0 ≤ 0x6000) ∧
    ¬ (0x5D00 ≤ (0x5D00#16 : Word16).toNat ∧ (0x5D00#16 : Word16).toNat + 0x301 ≤ 0x6000) ∧
    ¬ (0x5D00 ≤ (0x5CFF#16 : Word16).toNat ∧ (0x5CFF#16 : Word16).toNat + 0 ≤ 0x6000) := by decide

/-- For PatchWriteIssuesEveryByteInOrder and FailingPatchWriteWritesNothing. -/
theorem test_witness_PatchWrite :
    (0x5D00 ≤ (0x5FFF#16 : Word16).toNat ∧ (0x5FFF#16 : Word16).toNat + [0x39#8].length ≤ 0x6000) ∧
    ¬ (0x5D00 ≤ (0x5FFF#16 : Word16).toNat ∧ (0x5FFF#16 : Word16).toNat + [0x39#8, 0x39#8].length ≤ 0x6000) ∧
    (0#8 : Byte) ≠ 1#8 ∧ (0#8 : Byte) ≠ 2#8 ∧ (0#8 : Byte) ≠ 3#8 := by decide

/-- A write request the host asks for, and one the mode-6 handler asks for while the checksum byte's step calls it. -/
theorem test_witness_WritesStayInThePatchWindow :
    (∃ s t : State, s.cfg = Config.document ∧ step s = .next t ∧ t.img = s.img ++ [(0x5FFF, 0x39#8)]) ∧
    ∃ s t : State, s.cfg = Config.document ∧ step s = .next t ∧ t.img = s.img ++ [(0x5D00, 0x7E#8)] ∧
      s.rxState = .waitChecksum :=
  ⟨⟨asking (.patchWrite 3#8 0x5FFF#16 [0x39#8]), _, rfl, rfl, by decide⟩,
   uploading [.patchWrite 1#8 0x5D00#16 [0x7E#8]] none, _, rfl, rfl, by decide, rfl⟩

theorem test_witness_FunctionPortsTouchNoState : ∀ bankId cpuAddr data,
    FnRequest.translate 2#8 0x8000#16 ≠ .patchWrite bankId cpuAddr data := by
  intro bankId cpuAddr data h
  cases h

theorem test_witness_CancelDropsThePartialFrameOnly : State.reset.rx = .waitDevice := rfl

theorem test_witness_OnlyBytesAndDecoderResetsMoveTheDecoder :
    (∃ s t : State, step s = .next t ∧ t.rx ≠ s.rx ∧ s.inbox = [.rx 0xF4#8]) ∧
    (∃ s t : State, step s = .next t ∧ t.rx ≠ s.rx ∧ s.inbox = [.evt .cancel]) :=
  ⟨⟨receiving .waitDevice 0xF4#8, _, rfl, by decide, rfl⟩, interrupted .cancel, _, rfl, by decide, rfl⟩

/-- For EveryStepKeepsTheInvariant, NoStepChangesTheConfiguration and PortsOnlyGrowAndInputsAreTakenInOrder: a frame in
progress, with an image written to. -/
theorem test_witness_EveryStepKeepsTheInvariant : ∃ s t : State, Invariant s ∧ step s = .next t ∧ t.rx ≠ s.rx :=
  ⟨{ receiving (.waitPayload 0xF4#8 0x58#8 6#8 [0xDE#8]) 0xAD#8 with image := [(0x5D00, 0x7E#8), (0x5D01, 0x5D#8)] }, _,
    ⟨⟨by decide, by decide, by decide⟩, by decide⟩, rfl, by decide⟩

theorem test_witness_ErrorKindsHaveTheirCauses :
    (∃ s t : State, step s = .next t ∧ s.inbox ≠ [] ∧ t.err = some .invalidLength) ∧
    (∃ s t : State, step s = .next t ∧ s.inbox ≠ [] ∧ t.err = some .checksumMismatch) ∧
    (∃ s t : State, step s = .next t ∧ s.inbox ≠ [] ∧ t.err = some .unauthorizedAccess) ∧
    (∃ s t : State, step s = .next t ∧ s.inbox ≠ [] ∧ t.err = some .bankOutOfRange ∧ s.inbox = [.rx 0x23#8]) ∧
    (∃ s t : State, step s = .next t ∧ s.inbox ≠ [] ∧ t.err = some .bankOutOfRange) :=
  ⟨⟨receiving (.waitLength 0xF4#8) 0x10#8, _, rfl, by decide, by decide⟩,
   ⟨receiving (.waitChecksum 0xF4#8 0x56#8 5#8 []) 0xB0#8, _, rfl, by decide, by decide⟩,
   ⟨about .locked 0xF4#8 0x56#8 0x05#8 [] 0xB1#8, _, rfl, by decide, by decide⟩,
   ⟨uploading [.translate 4#8 0x9000#16] none, _, rfl, by decide, by decide, rfl⟩,
   ⟨asking (.translate 4#8 0x9000#16), _, rfl, by decide, by decide⟩⟩

end Tests
end Sys2Proof
end

section
/-! The shape of an encoded frame (30_encoding.md R80, R81) and the document's bounds on it. -/

namespace Sys2Proof

/-- Byte 1 of an encoded frame is the length byte (30_encoding.md R80). -/
theorem encodeFrame_getElem_one {cfg : Config.Profile} {dev mode : Byte} {p f : List Byte}
    (hf : encodeFrame cfg dev mode p = some f) : f[1]? = some (lengthByteOf cfg p) := by
  rw [isFrame_eq ((encodeFrame_eq_some_iff cfg dev mode p f).mp hf)]
  rfl

/-- An encoded frame holds four bytes besides its payload: id, length byte, mode and checksum (30_encoding.md R80). -/
theorem encodeFrame_length {cfg : Config.Profile} {dev mode : Byte} {p f : List Byte}
    (hf : encodeFrame cfg dev mode p = some f) : f.length = p.length + 4 := by
  rw [isFrame_eq ((encodeFrame_eq_some_iff cfg dev mode p f).mp hf)]
  simp [frameBody]

theorem fits_of_encodeFrame_eq_some {cfg : Config.Profile} {dev mode : Byte} {p f : List Byte}
    (hf : encodeFrame cfg dev mode p = some f) : cfg.fits p.length = true :=
  isFrame_fits ((encodeFrame_eq_some_iff cfg dev mode p f).mp hf)

/-- `ENCODE` gives a frame exactly for the payloads that fit. -/
theorem exists_encodeFrame_iff_fits (cfg : Config.Profile) (dev mode : Byte) (p : List Byte) :
    (∃ f, encodeFrame cfg dev mode p = some f) ↔ cfg.fits p.length = true := by
  constructor
  · rintro ⟨f, hf⟩
    exact fits_of_encodeFrame_eq_some hf
  · intro h
    exact ⟨_, encodeFrame_of_fits dev mode h⟩

/-- Settles O22: the document's `fits` is `n ≤ 169`, and the shape of an encoded frame turns that bound into the bounds
on the length byte and on the frame's length. -/
theorem lengthByteIsEightySixPlusPayload : Obligations.LengthByteIsEightySixPlusPayload := by
  intro dev mode payload
  constructor
  · rw [exists_encodeFrame_iff_fits, Config.document_fits_iff]
  · intro f hf
    have hfits := fits_of_encodeFrame_eq_some hf
    have hn : payload.length ≤ 169 := (Config.document_fits_iff _).mp hfits
    have hlen : (lengthByteOf Config.document payload).toNat = 85 + 1 + payload.length := lengthByteOf_toNat hfits
    have hframe := encodeFrame_length hf
    refine ⟨_, encodeFrame_getElem_one hf, hlen, ?_⟩
    omega

end Sys2Proof
end

section
/-! The `CHECKSUM` port (40_checksum.md R120). -/

namespace Sys2Proof
namespace Machine

/-- A lone function request that raises no kind and asks for no write changes the answer port only (10_state.md R35). -/
theorem State.served_singleton_of_only_answers {s : State} {r : FnRequest} (hkind : (r.answer s.cfg).kind = none)
    (hwrites : r.writes s.cfg = []) : s.served [r] = { s with fnOut := s.fnOut ++ [r.answer s.cfg] } := by
  simp [State.served, hkind, hwrites]

theorem exec_checksum (bytes : List Byte) (s : State) :
    exec (.checksum bytes) s = .next { s with fnOut := s.fnOut ++ [.byte (checksum bytes)] } := by
  have hserved : s.served [.checksum bytes] = { s with fnOut := s.fnOut ++ [.byte (checksum bytes)] } :=
    State.served_singleton_of_only_answers rfl rfl
  exact congrArg Host.Outcome.next hserved

/-- Settles O19: the port answers `checksum bytes`, whose value is the formula of R120. -/
theorem checksumPortAnswersTheNegatedSum : Obligations.ChecksumPortAnswersTheNegatedSum := fun bytes s =>
  ⟨checksum bytes, checksum_toNat bytes, exec_checksum bytes s⟩

end Machine
end Sys2Proof
end

section
/-! The decoder's rows: a received byte is one step of the decoder's automaton (41_frame_codec.md R130 to R137). -/

namespace Sys2Proof

theorem rxDevice_of_mem {cfg : Config.Profile} {b : Byte} (h : b ∈ cfg.knownIds) : rxDevice cfg b = .waitLength b :=
  if_pos (List.contains_iff_mem.mpr h)

theorem rxDevice_of_notMem {cfg : Config.Profile} {b : Byte} (h : b ∉ cfg.knownIds) : rxDevice cfg b = .waitDevice :=
  if_neg (mt List.contains_iff_mem.mp h)

theorem rxPayload_of_last {cfg : Config.Profile} {len : Byte} {pay : List Byte} (dev mode b : Byte)
    (h : announced cfg len = pay.length + 1) :
    rxPayload cfg dev len mode pay b = .waitChecksum dev len mode (pay ++ [b]) :=
  if_pos (List.length_append.trans h.symm)

theorem rxPayload_of_not_last {cfg : Config.Profile} {len : Byte} {pay : List Byte} (dev mode b : Byte)
    (h : announced cfg len ≠ pay.length + 1) :
    rxPayload cfg dev len mode pay b = .waitPayload dev len mode (pay ++ [b]) :=
  if_neg fun hlen => h (hlen.symm.trans List.length_append)

/-- Comparing with the checksum byte is comparing with the formula of 40_checksum.md R120. -/
theorem eq_checksum_iff_toNat (bs : List Byte) (b : Byte) :
    b = checksum bs ↔ b.toNat = (256 - byteSum bs % 256) % 256 := by
  rw [← BitVec.toNat_inj, checksum_toNat]

namespace Machine

/-- The row a decoder state selects does what the automaton says, in every decoder state. -/
theorem exec_decodeRx {s : State} {d : Decoder} (b : Byte) (hrx : s.rx = d) :
    exec (decodeRx d.state b) s = s.received (decoderStep s.cfg d b) := by
  cases d <;>
    simp only [Decoder.state, decodeRx, decoderStep, exec, execRxWaitDevice, execRxWaitLength, execRxWaitMode,
      execRxWaitPayload, execRxWaitChecksum, hrx]

theorem exec_rxWaitDevice {s : State} (b : Byte) (hrx : s.rx = .waitDevice) :
    exec (.rxWaitDevice b) s = .next { s with rx := rxDevice s.cfg b } :=
  exec_decodeRx b hrx

theorem exec_rxWaitPayload {s : State} {dev len mode : Byte} {pay : List Byte} (b : Byte)
    (hrx : s.rx = .waitPayload dev len mode pay) :
    exec (.rxWaitPayload b) s = .next { s with rx := rxPayload s.cfg dev len mode pay b } :=
  exec_decodeRx b hrx

theorem exec_rxWaitChecksum {s : State} {dev len mode : Byte} {pay : List Byte} (b : Byte)
    (hrx : s.rx = .waitChecksum dev len mode pay) :
    exec (.rxWaitChecksum b) s = s.received (rxChecksum dev len mode pay b) :=
  exec_decodeRx b hrx

theorem State.rxN_waitPayload {s : State} {dev len mode : Byte} {pay : List Byte}
    (hrx : s.rx = .waitPayload dev len mode pay) : s.rxN = some (announced s.cfg len) := by
  simp only [State.rxN, State.rxLen, hrx, Option.map_some]

/-- Settles O11: an id of `KNOWN_IDS` is latched; any other byte leaves the decoder as it stands. -/
theorem deviceByteOpensAFrameOrIsIgnored : Obligations.DeviceByteOpensAFrameOrIsIgnored := by
  intro s b hrx
  constructor
  · intro hknown
    rw [exec_rxWaitDevice b hrx, rxDevice_of_mem hknown]
  · intro hunknown
    rw [exec_rxWaitDevice b hrx, rxDevice_of_notMem hunknown, ← hrx]

/-- Settles O14: one byte by the comparison of the new `rx_idx` with `rx_n`, byte sequences by the induction over them
in `decodeStream_payload_short` and `decodeStream_payload_full`. -/
theorem payloadBytesAreStoredUntilAllArrived : Obligations.PayloadBytesAreStoredUntilAllArrived := by
  refine ⟨fun s dev len mode b pay hrx => ?_, fun cfg dev len mode bytes => ?_⟩
  · rw [exec_rxWaitPayload b hrx, State.rxN_waitPayload hrx, ne_eq, Option.some.injEq]
    constructor
    · intro hlast
      rw [rxPayload_of_last dev mode b hlast]
    · intro hmore
      rw [rxPayload_of_not_last dev mode b hmore]
  · rw [← announced_eq]
    constructor
    · intro hshort
      exact decodeStream_payload_short cfg dev len mode bytes [] (by simpa using hshort)
    · intro hpos hfull
      exact decodeStream_payload_full cfg dev len mode bytes [] hpos (by simpa using hfull)

end Machine
end Sys2Proof
end

section
/-! Delivery: dispatching a frame is running the request it selects (41_frame_codec.md R137, 42_dispatcher.md R160). -/

namespace Sys2Proof
namespace Machine

theorem exec_decodeSecurity (f : Frame) (s : State) : exec (decodeSecurity s.cfg f) s = security f s := by
  unfold decodeSecurity security
  split
  · cases f.payload <;> rfl
  · split
    · rcases f.payload with _ | ⟨hi, _ | ⟨lo, rest⟩⟩ <;> rfl
    · rfl

/-- The routing table of `dispatch` and the operation table of `decodeRequest` agree. -/
theorem exec_decodeRequest (f : Frame) (s : State) : exec (decodeRequest s.cfg f) s = dispatch f s := by
  by_cases hreserved : f.mode ∉ s.cfg.modes ∨ f.mode ∉ Config.routedModes
  · rw [decodeRequest_reserved s.cfg f hreserved, dispatch_reserved f s hreserved]
    rfl
  · obtain ⟨hlisted, hrouted⟩ : f.mode ∈ s.cfg.modes ∧ f.mode ∈ Config.routedModes := by simpa using hreserved
    simp only [decodeRequest, dispatch, if_pos (List.contains_iff_mem.mpr hlisted)]
    by_cases hsec : f.mode = 13#8
    · rw [hsec]
      exact exec_decodeSecurity f s
    · simp only [Config.routedModes, List.mem_cons, List.not_mem_nil, or_false, hsec] at hrouted
      rcases hrouted with h | h | h | h | h | h | h | h | h | h <;> rw [h] <;> rfl

/-- Settles O15: the right byte delivers the latched frame, whose dispatch is its request; any other is a framing
error. -/
theorem checksumByteDispatchesOrDrops : Obligations.ChecksumByteDispatchesOrDrops := by
  intro s dev len mode b pay hrx
  rw [exec_rxWaitChecksum b hrx]
  have hbyte := eq_checksum_iff_toNat (frameBody dev len mode pay) b
  constructor
  · intro hright
    rw [rxChecksum, if_pos (hbyte.mpr hright)]
    exact (exec_decodeRequest _ s.resetDecoder).symm
  · intro hwrong
    rw [rxChecksum, if_neg (mt hbyte.mp hwrong)]
    rfl

end Machine
end Sys2Proof
end

section
/-! The key function of the handshake and its port (43_security.md R190). -/

namespace Sys2Proof
namespace Machine

/-- `key = (KEY_CONSTANT - seed) mod 65536` as unbounded integers, with the remainder that is never negative. -/
theorem keyOf_toNat (cfg : Config.Profile) (seedHi seedLo : Byte) :
    ((keyOf cfg seedHi seedLo).toNat : Int) = (cfg.keyConstant - seedNumber seedHi seedLo : Int) % 65536 := by
  have hnonneg : 0 ≤ (cfg.keyConstant - seedNumber seedHi seedLo : Int) % 65536 :=
    Int.emod_nonneg _ (by decide)
  exact (congrArg Nat.cast (BitVec.toNat_ofInt ..)).trans (Int.toNat_of_nonneg hnonneg)

/-- The submission order high, low is swapped: the low byte has the weight 256. -/
theorem seedNumber_cast (seedHi seedLo : Byte) :
    (seedNumber seedHi seedLo : Int) = (seedLo.toNat : Int) * 256 + seedHi.toNat := by
  simp only [seedNumber, Nat.cast_add, Nat.cast_mul, Nat.cast_ofNat]

theorem exec_computeKey (seedHi seedLo : Byte) (s : State) :
    exec (.computeKey seedHi seedLo) s = .next { s with fnOut := s.fnOut ++ [.key (keyOf s.cfg seedHi seedLo)] } := by
  have hserved : s.served [.computeKey seedHi seedLo] =
      { s with fnOut := s.fnOut ++ [.key (keyOf s.cfg seedHi seedLo)] } :=
    State.served_singleton_of_only_answers rfl rfl
  exact congrArg Host.Outcome.next hserved

/-- Settles O23: the port answers `keyOf`, whose value with the document's `KEY_CONSTANT` is the formula of R190. -/
theorem computeKeyPortSubtractsTheSwappedSeed : Obligations.ComputeKeyPortSubtractsTheSwappedSeed := by
  intro seedHi seedLo s hcfg
  refine ⟨keyOf s.cfg seedHi seedLo, ?_, exec_computeKey seedHi seedLo s⟩
  rw [keyOf_toNat, hcfg, Config.document_keyConstant, Nat.cast_ofNat, seedNumber_cast]

end Machine
end Sys2Proof
end

section
/-! The event `CANCEL`: a reset of the decoder and of nothing else (60_exceptions.md R255). -/

namespace Sys2Proof
namespace Machine

/-- Without a partial frame there is nothing to drop (10_state.md R38). -/
theorem State.resetDecoder_of_waitDevice {s : State} (hrx : s.rx = .waitDevice) : s.resetDecoder = s := by
  rw [State.resetDecoder, ← hrx]

theorem exec_cancel (s : State) : exec .cancel s = .next s.resetDecoder := rfl

/-- Settles O53: CANCEL is `resetDecoder`, which writes the decoder alone and keeps a state already in WAIT_DEVICE. -/
theorem cancelDropsThePartialFrameOnly : Obligations.CancelDropsThePartialFrameOnly := by
  intro s
  constructor
  · exact exec_cancel s
  · intro hrx
    rw [exec_cancel, State.resetDecoder_of_waitDevice hrx]

end Machine
end Sys2Proof
end

section
/-! Whole frames through the decoder: the bytes of a frame lead to its one outcome (41_frame_codec.md R139). -/

namespace Sys2Proof

theorem rxChecksum_of_right {dev len mode b : Byte} {pay : List Byte} (h : b = checksum (frameBody dev len mode pay)) :
    rxChecksum dev len mode pay b =
      .done { deviceId := dev, lengthByte := len, mode := mode, payload := pay, checksum := b } :=
  if_pos h

theorem rxChecksum_of_wrong {dev len mode b : Byte} {pay : List Byte} (h : b ≠ checksum (frameBody dev len mode pay)) :
    rxChecksum dev len mode pay b = .error .checksumMismatch :=
  if_neg h

/-- The checksum byte ends the frame with one outcome, whatever the byte is (41_frame_codec.md R137). -/
theorem decodeStream_checksum_byte (cfg : Config.Profile) (dev len mode b : Byte) (pay : List Byte) :
    decodeStream cfg (.waitChecksum dev len mode pay) [b] = ([rxChecksum dev len mode pay b], .waitDevice) := by
  by_cases h : b = checksum (frameBody dev len mode pay)
  · simp [decodeStream, decoderStep, rxChecksum_of_right h, RxOutcome.report, RxOutcome.decoder]
  · simp [decodeStream, decoderStep, rxChecksum_of_wrong h, RxOutcome.report, RxOutcome.decoder]

/-- A resting decoder reports one outcome for an id, a legal length byte, a mode, the announced payload and a last byte:
that of the last byte. -/
theorem decodeStream_frame {cfg : Config.Profile} {dev len : Byte} {pay : List Byte} (mode b : Byte)
    (hdev : dev ∈ cfg.knownIds) (hlen : cfg.lenBias + 1 ≤ len.toNat) (hpay : pay.length = announced cfg len) :
    decodeStream cfg .waitDevice (frameBody dev len mode pay ++ [b]) =
      ([rxChecksum dev len mode pay b], .waitDevice) := by
  rw [decodeStream_append, frameBody, decodeStream_to_checksum cfg dev len mode pay hdev hlen hpay]
  exact decodeStream_checksum_byte cfg dev len mode b pay

/-- The last byte is right exactly when all bytes of the frame sum to 0 modulo 256 (40_checksum.md R122). -/
theorem eq_checksum_iff_frame_sum (body : List Byte) (b : Byte) :
    b = checksum body ↔ byteSum (body ++ [b]) % 256 = 0 := by
  rw [eq_checksum_iff, byteSum_append, byteSum_cons, byteSum_nil, Nat.add_zero]

theorem lenBias_lt_lengthByteOf {cfg : Config.Profile} {p : List Byte} (h : cfg.fits p.length = true) :
    cfg.lenBias + 1 ≤ (lengthByteOf cfg p).toNat := by
  rw [lengthByteOf_toNat h]
  exact Nat.le_add_right _ _

/-- Settles O9: the body leads to WAIT_CHECKSUM with the payload latched, and the frame's last byte is its checksum. -/
theorem decodingAnEncodedFrameDeliversIt : Obligations.DecodingAnEncodedFrameDeliversIt := by
  intro cfg dev mode payload f hdev hf
  have hfits := isFrame_fits hf
  refine ⟨checksum (frameBody dev (lengthByteOf cfg payload) mode payload), ?_⟩
  rw [isFrame_eq hf, decodeStream_frame mode _ hdev (lenBias_lt_lengthByteOf hfits) (announced_lengthByteOf hfits).symm,
    rxChecksum_of_right rfl]
  rfl

/-- Settles O17: the one outcome is that of the last byte, which is DONE exactly when the byte is the checksum. -/
theorem aFrameIsGoodExactlyWhenItsBytesSumToZero : Obligations.AFrameIsGoodExactlyWhenItsBytesSumToZero := by
  intro cfg dev len mode b pay hdev hlen hpay
  change (∃ f, decodeStream cfg .waitDevice (frameBody dev len mode pay ++ [b]) = ([.done f], .waitDevice)) ↔
    byteSum (frameBody dev len mode pay ++ [b]) % 256 = 0
  rw [decodeStream_frame mode b hdev hlen hpay, ← eq_checksum_iff_frame_sum]
  constructor
  · rintro ⟨f, hf⟩
    by_contra hwrong
    rw [rxChecksum_of_wrong hwrong] at hf
    cases hf
  · intro hright
    exact ⟨_, by rw [rxChecksum_of_right hright]⟩

/-! The number of bytes a frame takes. -/

/-- After the mode byte, fewer payload bytes than announced leave the decoder in WAIT_PAYLOAD. -/
theorem decodeStream_mode_payload_short {cfg : Config.Profile} {len : Byte} {pay : List Byte} (dev mode : Byte)
    (h : pay.length < announced cfg len) :
    decodeStream cfg (.waitMode dev len) (mode :: pay) = ([], .waitPayload dev len mode pay) := by
  have hne : announced cfg len ≠ 0 := by omega
  simp only [decodeStream, decoderStep, rxMode, if_neg hne, RxOutcome.decoder, RxOutcome.report]
  rw [decodeStream_payload_short cfg dev len mode pay [] (by simpa using h)]
  rfl

/-- Settles O16: the mode byte and at most the announced payload leave the decoder inside the frame, and the byte after
them is the checksum byte. -/
theorem decoderTakesTheAnnouncedNumberOfBytes : Obligations.DecoderTakesTheAnnouncedNumberOfBytes := by
  intro cfg dev len bytes _
  rw [← announced_eq]
  constructor
  · intro hfew
    rcases bytes with _ | ⟨mode, pay⟩
    · simp [decodeStream, Decoder.state]
    · rcases Nat.lt_or_ge pay.length (announced cfg len) with hshort | hfull
      · rw [decodeStream_mode_payload_short dev mode hshort]
        simp [Decoder.state]
      · rw [decodeStream_mode_payload cfg dev len mode pay (by simp at hfew; omega)]
        simp [Decoder.state]
  · intro hall
    obtain ⟨front, b, rfl⟩ : ∃ front b, bytes = front ++ [b] :=
      (List.eq_nil_or_concat' bytes).resolve_left (by rintro rfl; simp at hall)
    rcases front with _ | ⟨mode, pay⟩
    · simp at hall
    · have hpay : pay.length = announced cfg len := by simpa using hall
      rw [decodeStream_append, decodeStream_mode_payload cfg dev len mode pay hpay, decodeStream_checksum_byte]
      exact ⟨rfl, rfl⟩

/-! One corrupted byte. -/

/-- Replacing a byte moves the sum by the difference of the two bytes. -/
theorem byteSum_set (l : List Byte) (i : Nat) (x y : Byte) (h : l[i]? = some y) :
    byteSum (l.set i x) + y.toNat = byteSum l + x.toNat := by
  induction l generalizing i with
  | nil => simp at h
  | cons b l ih =>
    cases i with
    | zero =>
      obtain rfl : b = y := by simpa using h
      simp only [List.set_cons_zero, byteSum_cons]
      omega
    | succ i =>
      have := ih i (by simpa using h)
      simp only [List.set_cons_succ, byteSum_cons]
      omega

/-- Replacing a byte by another one changes the sum modulo 256 (40_checksum.md, single-byte sensitivity). -/
theorem byteSum_set_mod_ne {l : List Byte} {i : Nat} {x : Byte} (hi : i < l.length) (hx : l[i]? ≠ some x) :
    byteSum (l.set i x) % 256 ≠ byteSum l % 256 := by
  have hget : l[i]? = some l[i] := List.getElem?_eq_getElem hi
  have hmove := byteSum_set l i x l[i] hget
  have hne : x.toNat ≠ l[i].toNat := fun h => hx (hget.trans (congrArg some (BitVec.eq_of_toNat_eq h.symm)))
  have := x.isLt
  have := l[i].isLt
  omega

/-- A frame with one byte replaced, not the length byte, is still cut into the same fields, with the old id or, at
position 0, the new one. -/
theorem set_frame_shape (dev len mode c x : Byte) (pay : List Byte) (i : Nat) (hi : i ≠ 1) :
    ∃ dev' mode' c' pay', (dev' = dev ∨ i = 0 ∧ dev' = x) ∧ pay'.length = pay.length ∧
      (frameBody dev len mode pay ++ [c]).set i x = frameBody dev' len mode' pay' ++ [c'] := by
  match i, hi with
  | 0, _ => exact ⟨x, mode, c, pay, .inr ⟨rfl, rfl⟩, rfl, rfl⟩
  | 2, _ => exact ⟨dev, x, c, pay, .inl rfl, rfl, rfl⟩
  | k + 3, _ =>
    have hlen : ((pay ++ [c]).set k x).length = pay.length + 1 := by simp
    obtain ⟨pay', c', heq⟩ : ∃ pay' c', (pay ++ [c]).set k x = pay' ++ [c'] :=
      (List.eq_nil_or_concat' _).resolve_left (by intro h; simp [h] at hlen)
    refine ⟨dev, mode, c', pay', .inl rfl, ?_, ?_⟩
    · simpa [heq] using hlen
    · simp [frameBody, heq]

/-- Settles O18: the changed frame is cut into the same fields, and its sum is no longer 0 modulo 256. -/
theorem singleByteCorruptionIsReported : Obligations.SingleByteCorruptionIsReported := by
  intro cfg dev mode payload f i x hdev hf hi hne hknown hx
  have hfits := isFrame_fits hf
  have hframe := isFrame_eq hf
  obtain ⟨-, -, -, -, hsum⟩ := hf
  have hbad : byteSum (f.set i x) % 256 ≠ 0 := fun h => byteSum_set_mod_ne hi hx (h.trans hsum.symm)
  rw [hframe] at hbad ⊢
  obtain ⟨dev', mode', c', pay', hdev', hpay', heq⟩ :=
    set_frame_shape dev (lengthByteOf cfg payload) mode (checksum (frameBody dev (lengthByteOf cfg payload) mode payload)) x
      payload i hne
  have hdevKnown : dev' ∈ cfg.knownIds := by
    rcases hdev' with rfl | ⟨h0, rfl⟩
    · exact hdev
    · exact hknown h0
  rw [heq, decodeStream_frame mode' c' hdevKnown (lenBias_lt_lengthByteOf hfits)
    (hpay'.trans (announced_lengthByteOf hfits).symm)]
  rw [heq] at hbad
  rw [rxChecksum_of_wrong (mt (eq_checksum_iff_frame_sum _ c').mp hbad)]

end Sys2Proof
end

section
/-! Requests on the wire: a request is read back from its encoding (30_encoding.md R80 to R87). -/

namespace Sys2Proof

/-- The frame the decoder delivers for an encoded id, mode and payload (30_encoding.md R80 to R82). -/
def sentFrame (cfg : Config.Profile) (dev mode : Byte) (payload : List Byte) : Frame where
  deviceId := dev
  lengthByte := lengthByteOf cfg payload
  mode := mode
  payload := payload
  checksum := checksum (frameBody dev (lengthByteOf cfg payload) mode payload)

/-- Bytes over which nothing is reported are only steps of the automaton. -/
theorem decodeBytes_append_of_silent {cfg : Config.Profile} {d d' : Decoder} {bytes : List Byte} (rest : List Byte)
    (h : decodeStream cfg d bytes = ([], d')) : decodeBytes cfg d (bytes ++ rest) = decodeBytes cfg d' rest := by
  induction bytes generalizing d with
  | nil =>
    obtain rfl : d = d' := congrArg Prod.snd h
    rfl
  | cons b bytes ih =>
    simp only [decodeStream] at h
    rw [List.cons_append, decodeBytes]
    cases ho : decoderStep cfg d b with
    | wait next => exact ih (by simpa [ho, RxOutcome.report, RxOutcome.decoder] using h)
    | done f => simp [ho, RxOutcome.report] at h
    | error k => simp [ho, RxOutcome.report] at h

/-- The first frame of an encoded frame and any bytes after it is that frame. -/
theorem decodeBytes_encoded {cfg : Config.Profile} {dev : Byte} (mode : Byte) {payload : List Byte} (rest : List Byte)
    (hdev : dev ∈ cfg.knownIds) (hfits : cfg.fits payload.length = true) :
    decodeBytes cfg .waitDevice (frameBody dev (lengthByteOf cfg payload) mode payload ++
      [checksum (frameBody dev (lengthByteOf cfg payload) mode payload)] ++ rest) =
        .ok (sentFrame cfg dev mode payload, rest) := by
  have hbody := decodeStream_to_checksum cfg dev (lengthByteOf cfg payload) mode payload hdev
    (lenBias_lt_lengthByteOf hfits) (announced_lengthByteOf hfits).symm
  rw [List.append_assoc, frameBody, decodeBytes_append_of_silent _ hbody, ← frameBody, List.singleton_append,
    decodeBytes, decoderStep, rxChecksum_of_right rfl]
  rfl

/-- A request is read back from its encoding when its frame selects it (30_encoding.md R87). -/
theorem exists_encoding_of_selects {cfg : Config.Profile} {i : Instr} {dev mode : Byte} {payload : List Byte}
    (rest : List Byte) (henc : encodeInstr cfg i = encodeFrame cfg dev mode payload) (hdev : cfg.knownIds.contains dev)
    (hfits : cfg.fits payload.length = true) (hselects : decodeRequest cfg (sentFrame cfg dev mode payload) = i) :
    ∃ bytes, encodeInstr cfg i = some bytes ∧ decode cfg (bytes ++ rest) = .ok (i, rest) := by
  refine ⟨_, henc.trans (encodeFrame_of_fits dev mode hfits), ?_⟩
  rw [decode, decodeBytes_encoded mode rest (List.contains_iff_mem.mp hdev) hfits]
  simp only [hselects]

/-- The same for a row whose operands are only those every request has. -/
theorem exists_encoding_of_requestOk {cfg : Config.Profile} {i : Instr} {dev mode : Byte} {payload : List Byte}
    (rest : List Byte) (hwf : requestOk cfg dev mode payload = true)
    (henc : encodeInstr cfg i = encodeFrame cfg dev mode payload)
    (hselects : cfg.modes.contains mode → decodeRequest cfg (sentFrame cfg dev mode payload) = i) :
    ∃ bytes, encodeInstr cfg i = some bytes ∧ decode cfg (bytes ++ rest) = .ok (i, rest) := by
  simp only [requestOk, Bool.and_eq_true] at hwf
  obtain ⟨⟨hdev, hfits⟩, hmode⟩ := hwf
  exact exists_encoding_of_selects rest henc hdev hfits (hselects hmode)

/-- A listed mode 13 selects by the length byte (30_encoding.md R87). -/
theorem decodeRequest_mode13 {cfg : Config.Profile} (dev : Byte) (payload : List Byte)
    (hmode : cfg.modes.contains 13#8) :
    decodeRequest cfg (sentFrame cfg dev 13#8 payload) = decodeSecurity cfg (sentFrame cfg dev 13#8 payload) :=
  if_pos hmode

theorem requestOk_of_length_eq {cfg : Config.Profile} {dev mode : Byte} {p q : List Byte} (hlen : p.length = q.length)
    (h : requestOk cfg dev mode p = true) : requestOk cfg dev mode q = true := by
  rwa [requestOk, ← hlen]

/-- Settles O7: the frame of a request is delivered whole, and its mode and, in mode 13, its length byte select the row. -/
theorem everyRequestDecodesFromItsEncoding : Obligations.EveryRequestDecodesFromItsEncoding := by
  intro cfg i rest hwf
  cases i with
  | seedRequest dev submode =>
    simp only [Instr.wf, Bool.and_eq_true, beq_iff_eq] at hwf
    obtain ⟨hok, hlen⟩ := hwf
    refine exists_encoding_of_requestOk rest hok rfl fun hmode => ?_
    exact (decodeRequest_mode13 dev _ hmode).trans (if_pos hlen)
  | keySubmit dev k =>
    simp only [Instr.wf, Bool.and_eq_true, beq_iff_eq, bne_iff_ne] at hwf
    obtain ⟨⟨hok, hlen⟩, hdistinct⟩ := hwf
    have hkey : lengthByteOf cfg [highByte k, lowByte k] = cfg.lenKeySubmit := hlen
    refine exists_encoding_of_requestOk (payload := [highByte k, lowByte k]) rest (requestOk_of_length_eq rfl hok) rfl
      fun hmode => ?_
    rw [decodeRequest_mode13 dev _ hmode, decodeSecurity, sentFrame]
    simp only [hkey, if_neg hdistinct, if_true, keyOfBytes_high_low]
  | secMalformed dev p =>
    simp only [Instr.wf, Bool.and_eq_true, bne_iff_ne] at hwf
    obtain ⟨⟨hok, hnotSeed⟩, hnotKey⟩ := hwf
    refine exists_encoding_of_requestOk rest hok rfl fun hmode => ?_
    rw [decodeRequest_mode13 dev _ hmode, decodeSecurity, sentFrame]
    simp only [if_neg hnotSeed, if_neg hnotKey]
  | mode1Datastream dev p => exact exists_encoding_of_requestOk rest hwf rfl fun hmode => if_pos hmode
  | mode2FreezeFrame dev p => exact exists_encoding_of_requestOk rest hwf rfl fun hmode => if_pos hmode
  | mode3DtcRead dev p => exact exists_encoding_of_requestOk rest hwf rfl fun hmode => if_pos hmode
  | mode4ActuatorTest dev p => exact exists_encoding_of_requestOk rest hwf rfl fun hmode => if_pos hmode
  | mode5FlashEntry dev p => exact exists_encoding_of_requestOk rest hwf rfl fun hmode => if_pos hmode
  | mode6UploadExecute dev p => exact exists_encoding_of_requestOk rest hwf rfl fun hmode => if_pos hmode
  | mode7ClearDtc dev p => exact exists_encoding_of_requestOk rest hwf rfl fun hmode => if_pos hmode
  | mode8DisableChatter dev p => exact exists_encoding_of_requestOk rest hwf rfl fun hmode => if_pos hmode
  | mode9EnableChatter dev p => exact exists_encoding_of_requestOk rest hwf rfl fun hmode => if_pos hmode
  | mode10DiagNvram dev p => exact exists_encoding_of_requestOk rest hwf rfl fun hmode => if_pos hmode
  | reservedMode dev m p =>
    simp only [Instr.wf, Bool.and_eq_true, Bool.not_eq_true', Bool.and_eq_false_iff] at hwf
    obtain ⟨⟨hdev, hfits⟩, hgap⟩ := hwf
    refine exists_encoding_of_selects rest rfl hdev hfits (Machine.decodeRequest_reserved cfg (sentFrame cfg dev m p) ?_)
    simpa [sentFrame] using hgap
  | _ => trivial

/-! Stepping through the bytes of a frame (42_dispatcher.md R160). -/

namespace Machine

theorem run_one (M : Host.Core) (s : M.State) : M.run 1 s = M.step s := by
  rw [Host.Core.run]
  cases M.step s <;> rfl

theorem run_succ_of_next {M : Host.Core} {s t : M.State} (k : Nat) (h : M.step s = .next t) :
    M.run (k + 1) s = M.run k t := by
  rw [Host.Core.run, h]

/-- Received bytes over which nothing is reported move only the decoder, and the byte after them does what the automaton
says. -/
theorem core_run_of_silent {s : State} {bytes : List Byte} {d : Decoder} {b : Byte} {rest : List Input}
    (hin : s.inbox = bytes.map Input.rx ++ .rx b :: rest) (hsilent : decodeStream s.cfg s.rx bytes = ([], d)) :
    Host.Core.run core (bytes.length + 1) s =
      State.received { s.begun rest with rx := d } (decoderStep s.cfg d b) := by
  induction bytes generalizing s with
  | nil =>
    obtain rfl : s.rx = d := congrArg Prod.snd hsilent
    exact (run_one core s).trans (step_rx hin)
  | cons x bytes ih =>
    have hstep := step_rx (rest := bytes.map Input.rx ++ .rx b :: rest) hin
    simp only [decodeStream] at hsilent
    cases ho : decoderStep s.cfg s.rx x with
    | wait next =>
      rw [ho] at hstep hsilent
      exact (run_succ_of_next (M := core) _ hstep).trans (ih rfl (by simpa [RxOutcome.report, RxOutcome.decoder] using hsilent))
    | done f => simp [ho, RxOutcome.report] at hsilent
    | error k => simp [ho, RxOutcome.report] at hsilent

/-- Settles O10: the body moves only the decoder, and the checksum byte dispatches the latched frame. -/
theorem receivingAFrameRunsItsRequest : Obligations.ReceivingAFrameRunsItsRequest := by
  intro s dev mode payload f rest hrx hdev hf hin
  have hfits := isFrame_fits hf
  have hsilent := decodeStream_to_checksum s.cfg dev (lengthByteOf s.cfg payload) mode payload hdev
    (lenBias_lt_lengthByteOf hfits) (announced_lengthByteOf hfits).symm
  refine ⟨checksum (frameBody dev (lengthByteOf s.cfg payload) mode payload), ?_⟩
  rw [isFrame_eq hf, List.map_append, List.append_assoc] at hin
  rw [isFrame_eq hf, List.length_append]
  refine (core_run_of_silent hin (by rwa [hrx])).trans ?_
  rw [decoderStep, rxChecksum_of_right rfl]
  refine Eq.trans ?_ (exec_decodeRequest (sentFrame s.cfg dev mode payload) (s.begun rest)).symm
  have hrest : ({ s.begun rest with rx := .waitDevice } : State) = s.begun rest := by rw [← hrx, ← State.begun_rx s rest]
  exact congrArg (dispatch (sentFrame s.cfg dev mode payload)) hrest

end Machine
end Sys2Proof
end

section
/-! The step, inverted once: the six things a step can do (00_scope.md R13, 41_frame_codec.md R130, 60_exceptions.md R267). -/

namespace Sys2Proof
namespace Machine

/-- The step takes the right checksum byte `b` of the latched frame `f` and dispatches `f` (41_frame_codec.md R137). -/
structure Delivery (s t : State) (b : Byte) (rest : List Input) (f : Frame) : Prop where
  hin : s.inbox = .rx b :: rest
  hrx : s.rx = .waitChecksum f.deviceId f.lengthByte f.mode f.payload
  hsum : b = checksum (frameBody f.deviceId f.lengthByte f.mode f.payload)
  hrun : dispatch f (s.begun rest).resetDecoder = .next t

/-- The six things a step can do. -/
inductive StepCase (s t : State) : Prop
  /-- no input event is left -/
  | idle (hin : s.inbox = []) (ht : t = s)
  /-- a byte after which the decoder waits for more -/
  | waits (b : Byte) (rest : List Input) (d : Decoder) (hin : s.inbox = .rx b :: rest)
      (hbyte : decoderStep s.cfg s.rx b = .wait d) (ht : t = { s.begun rest with rx := d })
  /-- a byte that ends the partial frame with a framing error -/
  | drops (b : Byte) (rest : List Input) (k : ErrKind) (hin : s.inbox = .rx b :: rest)
      (hbyte : decoderStep s.cfg s.rx b = .error k) (ht : t = (s.begun rest).resetDecoder.raise k)
  /-- the right checksum byte of the latched frame, which is dispatched -/
  | delivers (b : Byte) (rest : List Input) (f : Frame) (hdelivery : Delivery s t b rest f)
  /-- an event -/
  | event (e : Event) (rest : List Input) (hin : s.inbox = .evt e :: rest)
      (hrun : exec e.instr (s.begun rest) = .next t)
  /-- a function request of the host -/
  | serves (r : FnRequest) (rest : List Input) (hin : s.inbox = .fn r :: rest) (ht : t = (s.begun rest).served [r])

theorem step_cases {s t : State} (h : step s = .next t) : StepCase s t := by
  rcases hin : s.inbox with _ | ⟨b | e | r, rest⟩
  · rw [step_nil hin] at h
    cases h
    exact .idle hin rfl
  · rw [step_rx hin] at h
    rcases received_cases h with ⟨d, hbyte, ht⟩ | ⟨k, hbyte, ht⟩ | ⟨f, hbyte, hrun⟩
    · exact .waits b rest d hin hbyte ht
    · exact .drops b rest k hin hbyte ht
    · obtain ⟨hrx, -, hsum⟩ := decoderStep_done hbyte
      exact .delivers b rest f ⟨hin, hrx, hsum, hrun⟩
  · rw [step_cons hin] at h
    exact .event e rest hin h
  · rw [step_cons hin, Input.instr, fn_exec] at h
    cases h
    exact .serves r rest hin rfl

/-- What `evt_effect` says, of the state an event answers. -/
theorem evt_next {s t : State} {e : Event} (h : exec e.instr s = .next t) :
    t = { s with rx := t.rx, sess := t.sess } ∧
    (e.resetsSession = true → t.sess = .locked) ∧ (e.resetsSession = false → t.sess = s.sess) ∧
    (e ≠ .timeout → t.rx = .waitDevice) ∧ (e = .timeout → t.rx = s.rx) := by
  obtain ⟨u, hu, heffect⟩ := evt_effect s e
  rw [hu] at h
  cases h
  exact heffect

/-! ### Every step answers -/

theorem execSeedRequest_answers (dev submode : Byte) (s : State) : ∃ t, execSeedRequest dev submode s = .next t := by
  unfold execSeedRequest
  split <;> exact ⟨_, rfl⟩

theorem execKeySubmit_answers (dev : Byte) (k : Word16) (s : State) : ∃ t, execKeySubmit dev k s = .next t := by
  unfold execKeySubmit
  split
  · exact ⟨_, rfl⟩
  · split <;> exact ⟨_, rfl⟩
  · exact ⟨_, rfl⟩

theorem security_answers (f : Frame) (s : State) : ∃ t, security f s = .next t := by
  unfold security
  split
  · split
    · exact execSeedRequest_answers _ _ s
    · exact ⟨_, rfl⟩
  · split
    · split
      · exact execKeySubmit_answers _ _ s
      · exact ⟨_, rfl⟩
    · exact ⟨_, rfl⟩

theorem execMode4_answers (dev : Byte) (payload : List Byte) (s : State) :
    ∃ t, execMode4ActuatorTest dev payload s = .next t := by
  cases payload <;> exact ⟨_, rfl⟩

/-- Every delivered frame is answered (42_dispatcher.md R160). -/
theorem dispatch_answers (f : Frame) (s : State) : ∃ t, dispatch f s = .next t := by
  unfold dispatch
  split
  · split
    · exact security_answers f s
    · exact ⟨_, rfl⟩
    · exact ⟨_, rfl⟩
    · exact execMode4_answers _ _ s
    all_goals exact ⟨_, rfl⟩
  · exact ⟨_, rfl⟩

theorem received_answers (s : State) (o : RxOutcome) : ∃ t, s.received o = .next t := by
  cases o with
  | wait d => exact ⟨_, rfl⟩
  | error k => exact ⟨_, rfl⟩
  | done f => exact dispatch_answers f _

/-- Settles O3: an idle step keeps the state, a byte is answered in every decoder state, an event and a function request
always. -/
theorem everyStepAnswersANextState : Obligations.EveryStepAnswersANextState := by
  intro s
  rcases hin : s.inbox with _ | ⟨b | e | r, rest⟩
  · exact ⟨s, step_nil hin⟩
  · rw [step_rx hin]
    exact received_answers _ _
  · rw [step_cons hin]
    obtain ⟨t, ht, -⟩ := evt_effect (s.begun rest) e
    exact ⟨t, ht⟩
  · rw [step_cons hin]
    exact ⟨_, fn_exec _ r⟩

/-! ### Configuration, decoder, inputs and ports over a step -/

theorem Delivery.effect {s t : State} {b : Byte} {rest : List Input} {f : Frame} (h : Delivery s t b rest f) :
    RequestEffect f.deviceId f.mode (s.begun rest).resetDecoder t :=
  dispatch_effect h.hrun

/-- What a step keeps that dispatches no frame. -/
structure QuietStep (s t : State) : Prop where
  cfg : t.cfg = s.cfg
  inbox : t.inbox = s.inbox.tail
  drawIn : t.drawIn = s.drawIn
  statusIn : t.statusIn = s.statusIn
  replyIn : t.replyIn = s.replyIn
  tx : t.tx = s.tx
  calls : t.calls = s.calls
  img : s.img <+: t.img

/-- Only a dispatched frame transmits, calls a handler or takes a prepared answer. -/
theorem step_delivers_or_quiet {s t : State} (h : step s = .next t) :
    (∃ b rest f, Delivery s t b rest f) ∨ QuietStep s t := by
  cases step_cases h with
  | idle hin ht => exact .inr (by constructor <;> simp [ht, hin])
  | waits _ _ _ hin _ ht => exact .inr (by constructor <;> simp [ht, hin])
  | drops _ _ _ hin _ ht => exact .inr (by constructor <;> simp [ht, hin])
  | delivers b rest f hdelivery => exact .inl ⟨b, rest, f, hdelivery⟩
  | event _ _ hin hrun => exact .inr (by rw [(evt_next hrun).1]; constructor <;> simp [hin])
  | serves _ _ hin ht => exact .inr (by constructor <;> simp [ht, hin])

theorem step_cfg {s t : State} (h : step s = .next t) : t.cfg = s.cfg := by
  rcases step_delivers_or_quiet h with ⟨_, _, _, hdelivery⟩ | hquiet
  · exact hdelivery.effect.cfg
  · exact hquiet.cfg

/-- Settles O58: no case of a step writes the configuration. -/
theorem noStepChangesTheConfiguration : Obligations.NoStepChangesTheConfiguration := fun _ _ => step_cfg

/-- Settles O55: every step but that of a byte or an event keeps the decoder, and TIMEOUT keeps it too. -/
theorem onlyBytesAndDecoderResetsMoveTheDecoder : Obligations.OnlyBytesAndDecoderResetsMoveTheDecoder := by
  intro s t h hmoved
  cases step_cases h with
  | idle _ ht => exact absurd (congrArg State.rx ht) hmoved
  | waits b rest _ hin _ _ => exact .inl ⟨b, rest, hin⟩
  | drops b rest _ hin _ _ => exact .inl ⟨b, rest, hin⟩
  | delivers b rest _ hdelivery => exact .inl ⟨b, rest, hdelivery.hin⟩
  | event e rest hin hrun =>
    obtain ⟨-, -, -, hreset, hkeep⟩ := evt_next hrun
    have he : e ≠ .timeout := fun he => hmoved (hkeep he)
    exact .inr ⟨e, rest, hin, he, hreset he⟩
  | serves _ _ _ ht => exact absurd (congrArg State.rx ht) hmoved

/-- Settles O43: only a dispatched frame transmits, and `RequestEffect` says what. -/
theorem aStepTransmitsAtMostOneFrameEchoingTheRequest :
    Obligations.AStepTransmitsAtMostOneFrameEchoingTheRequest := by
  intro s t h
  rcases step_delivers_or_quiet h with ⟨b, rest, f, hdelivery⟩ | hquiet
  · refine hdelivery.effect.tx.imp id ?_
    rintro ⟨p, out, hout, htx⟩
    exact ⟨f.deviceId, f.lengthByte, f.mode, f.payload, b, rest, p, out, hdelivery.hrx, hdelivery.hin, hdelivery.hsum,
      hout, htx⟩
  · exact .inl hquiet.tx

/-- Settles O36: only a dispatched frame calls handlers, a privileged one only behind the gate. -/
theorem privilegedHandlersRunOnlyInUnlocked : Obligations.PrivilegedHandlersRunOnlyInUnlocked := by
  intro s t h
  rcases step_delivers_or_quiet h with ⟨_, _, _, hdelivery⟩ | hquiet
  · exact hdelivery.effect.calls
  · exact ⟨[], by simpa using hquiet.calls⟩

/-- Settles O31: a dispatched frame keeps an UNLOCKED session, so only an event is left, and that resets the session. -/
theorem unlockedIsLeftOnlyByAResettingEvent : Obligations.UnlockedIsLeftOnlyByAResettingEvent := by
  intro s t h hunlocked hmoved
  cases step_cases h with
  | idle _ ht => exact absurd (congrArg State.sess ht) hmoved
  | waits _ _ _ _ _ ht => exact absurd (congrArg State.sess ht) hmoved
  | drops _ _ _ _ _ ht => exact absurd (congrArg State.sess ht) hmoved
  | delivers _ _ _ hdelivery => exact absurd hunlocked (hdelivery.effect.sess.resolve_left hmoved).1
  | event e rest hin hrun =>
    obtain ⟨-, hlocks, hkeeps, -, -⟩ := evt_next hrun
    have he : e.resetsSession = true := by
      by_contra hno
      exact hmoved (hkeeps (Bool.eq_false_iff.mpr hno))
    exact ⟨e, rest, hin, he, hlocks he⟩
  | serves _ _ _ ht => exact absurd (congrArg State.sess ht) hmoved

/-- What a request has put out stays, and it takes at most one prepared answer. -/
theorem RequestEffect.ports {dev mode : Byte} {s t : State} (h : RequestEffect dev mode s t) :
    s.tx <+: t.tx ∧ s.calls <+: t.calls ∧ s.img <+: t.img ∧
    t.drawIn.length + t.statusIn.length + t.replyIn.length + 1 ≥
      s.drawIn.length + s.statusIn.length + s.replyIn.length ∧
    t.drawIn <:+ s.drawIn ∧ t.statusIn <:+ s.statusIn ∧ t.replyIn <:+ s.replyIn := by
  have htx : s.tx <+: t.tx := by
    rcases h.tx with e | ⟨_, f, _, e⟩
    · exact e ▸ List.prefix_rfl
    · exact e ▸ List.prefix_append _ f
  obtain ⟨new, hcalls, -⟩ := h.calls
  obtain ⟨reqs, -, himg, -⟩ := h.served
  refine ⟨htx, hcalls ▸ List.prefix_append _ new, himg ▸ List.prefix_append _ _, ?_⟩
  rcases h.draws with hd | ⟨hd, hs, hr⟩
  · rcases h.statuses with hs | ⟨hs, -, hr⟩
    · rcases h.replies with hr | ⟨hr, -, -⟩
      · simp [hd, hs, hr]
      · simp [hd, hs, hr, List.tail_suffix]; omega
    · simp [hd, hs, hr, List.tail_suffix]; omega
  · simp [hd, hs, hr, List.tail_suffix]; omega

/-- Settles O59: a dispatched frame by `RequestEffect.ports`; any other step keeps the prepared answers and every port
but `img`, which only grows. -/
theorem portsOnlyGrowAndInputsAreTakenInOrder : Obligations.PortsOnlyGrowAndInputsAreTakenInOrder := by
  intro s t h
  rcases step_delivers_or_quiet h with ⟨b, rest, f, hdelivery⟩ | hquiet
  · obtain ⟨htx, hcalls, himg, hanswers⟩ := hdelivery.effect.ports
    have hinbox : t.inbox = s.inbox.tail := by rw [hdelivery.effect.inbox, hdelivery.hin]; rfl
    exact ⟨htx, hcalls, himg, hinbox, hanswers⟩
  · obtain ⟨-, hinbox, hdraw, hstatus, hreply, htx, hcalls, himg⟩ := hquiet
    simp [htx, hcalls, himg, hinbox, hdraw, hstatus, hreply]

end Machine
end Sys2Proof
end

section
/-! The write requests of a step, and the invariant (20_memory.md R54, 10_state.md R39). -/

namespace Sys2Proof
namespace Machine

/-- Where the function requests of a step come from: the host's input, or the answer prepared for the handler that the
step of a checksum byte calls (10_state.md R35; log 7). -/
def RequestSource (s t : State) (r : FnRequest) : Prop :=
  (∃ rest, s.inbox = .fn r :: rest) ∨
  (∃ b rest, s.inbox = .rx b :: rest ∧ s.rxState = .waitChecksum ∧ t.calls ≠ s.calls ∧
    r ∈ s.nextReply.requests ++ s.nextStatus.requests)

/-- The write requests of a step are those of the function requests it answers. -/
theorem step_writes {s t : State} (h : step s = .next t) :
    ∃ reqs, t.img = s.img ++ writesOf s.cfg reqs ∧ t.image = s.image.writeAll (writesOf s.cfg reqs) ∧
      ∀ r ∈ reqs, RequestSource s t r := by
  cases step_cases h with
  | idle _ ht => exact ⟨[], by simp [ht]⟩
  | waits _ _ _ _ _ ht => exact ⟨[], by simp [ht]⟩
  | drops _ _ _ _ _ ht => exact ⟨[], by simp [ht]⟩
  | delivers b rest f hdelivery =>
    obtain ⟨reqs, hreqs, himg, himage, -⟩ := hdelivery.effect.served
    refine ⟨reqs, himg, himage, fun r hr => .inr ⟨b, rest, hdelivery.hin, by rw [State.rxState, hdelivery.hrx]; rfl, ?_⟩⟩
    rcases hreqs with rfl | ⟨hcalls, hprepared⟩
    · exact absurd hr List.not_mem_nil
    · refine ⟨hcalls, List.mem_append.mpr ?_⟩
      exact hprepared.imp (fun e => by rw [e] at hr; exact hr) (fun e => by rw [e] at hr; exact hr)
  | event _ _ _ hrun => exact ⟨[], by rw [(evt_next hrun).1]; simp⟩
  | serves r rest hin ht =>
    refine ⟨[r], by simp [ht], by simp [ht], fun q hq => .inl ⟨rest, ?_⟩⟩
    rw [hin, List.mem_singleton.mp hq]

/-- A byte the decoder takes keeps the latches consistent (10_state.md R39 (b) to (d)). -/
theorem decoderStep_wait_ok {cfg : Config.Profile} {d d' : Decoder} {b : Byte} (hd : DecoderOk cfg d)
    (h : decoderStep cfg d b = .wait d') : DecoderOk cfg d' := by
  cases d with
  | waitDevice =>
    obtain rfl := RxOutcome.wait.inj h
    by_cases hknown : b ∈ cfg.knownIds
    · rwa [rxDevice_of_mem hknown]
    · rw [rxDevice_of_notMem hknown]
      trivial
  | waitLength dev =>
    simp only [decoderStep, rxLength] at h
    split at h
    · cases h
    · rename_i hlegal
      obtain rfl := RxOutcome.wait.inj h
      exact ⟨hd, Nat.le_of_not_lt hlegal⟩
  | waitMode dev len =>
    obtain ⟨hdev, hlen⟩ := hd
    obtain rfl := RxOutcome.wait.inj h
    by_cases hempty : announced cfg len = 0
    · rw [rxMode, if_pos hempty]
      exact ⟨hdev, hlen, hempty.symm⟩
    · rw [rxMode, if_neg hempty]
      exact ⟨hdev, hlen, Nat.pos_of_ne_zero hempty⟩
  | waitPayload dev len mode pay =>
    obtain ⟨hdev, hlen, hmissing⟩ := hd
    rw [← announced_eq] at hmissing
    obtain rfl := RxOutcome.wait.inj h
    by_cases hlast : announced cfg len = pay.length + 1
    · rw [rxPayload_of_last dev mode b hlast]
      exact ⟨hdev, hlen, by simpa [← announced_eq] using hlast.symm⟩
    · rw [rxPayload_of_not_last dev mode b hlast]
      exact ⟨hdev, hlen, by rw [← announced_eq, List.length_append, List.length_singleton]; omega⟩
  | waitChecksum dev len mode pay =>
    simp only [decoderStep, rxChecksum] at h
    split at h <;> cases h

/-- A step keeps the latches consistent: a byte moves them as the automaton says, everything else resets or keeps them. -/
theorem step_decoderOk {s t : State} (h : step s = .next t) (hd : DecoderOk s.cfg s.rx) : DecoderOk s.cfg t.rx := by
  cases step_cases h with
  | idle _ ht => rwa [ht]
  | waits _ _ _ _ hbyte ht =>
    rw [ht]
    exact decoderStep_wait_ok hd hbyte
  | drops _ _ _ _ _ ht =>
    rw [ht]
    trivial
  | delivers _ _ _ hdelivery =>
    rw [hdelivery.effect.rx]
    trivial
  | event e _ _ hrun =>
    obtain ⟨-, -, -, hreset, hkeep⟩ := evt_next hrun
    by_cases he : e = .timeout
    · rwa [hkeep he]
    · rw [hreset he]
      trivial
  | serves _ _ _ ht => rwa [ht]

/-- Settles O57: the latches by the automaton, the image view because writes keep its canonical form. -/
theorem everyStepKeepsTheInvariant : Obligations.EveryStepKeepsTheInvariant := by
  intro s t hinv h
  obtain ⟨hdecoder, himage⟩ := hinv
  obtain ⟨reqs, -, hwrites, -⟩ := step_writes h
  refine ⟨?_, ?_⟩
  · rw [step_cfg h]
    exact step_decoderOk h hdecoder
  · rw [hwrites]
    exact Memory.writeAll_wf _ _ himage

/-- Settles O56: the decoder rests and the image view is empty. -/
theorem resetMeetsTheInvariant : Obligations.ResetMeetsTheInvariant := ⟨trivial, reset_image_wf⟩

/-! ### The patch window -/

/-- The window check, with the document's window 0x5D00 to 0x5FFF (44_translator.md R224). -/
theorem patchOk_document_iff (addr len : Nat) :
    patchOk Config.document addr len = true ↔ 0x5D00 ≤ addr ∧ addr + len ≤ 0x6000 := by
  simp only [patchOk, Bool.and_eq_true, decide_eq_true_eq]
  rfl

/-- Below WINDOW_BASE the offset is the address (44_translator.md R221). -/
theorem fileOffset_of_below {cfg : Config.Profile} (bank : Config.BankId) {addr : Nat} (h : addr < cfg.windowBase) :
    fileOffset cfg bank addr = addr :=
  if_pos h

/-- A write request of a patch is at the offset of one of its addresses. -/
theorem mem_patchRequests {cfg : Config.Profile} {bank : Config.BankId} {addr : Nat} {data : List Byte} {w : Nat × Byte}
    (h : w ∈ patchRequests cfg bank addr data) : ∃ i < data.length, w.1 = fileOffset cfg bank (addr + i) := by
  induction data generalizing addr with
  | nil => exact absurd h List.not_mem_nil
  | cons b data ih =>
    rcases List.mem_cons.mp h with rfl | h
    · exact ⟨0, Nat.succ_pos _, rfl⟩
    · obtain ⟨i, hi, hw⟩ := ih h
      exact ⟨i + 1, Nat.succ_lt_succ hi, by rw [hw, Nat.add_right_comm, Nat.add_assoc]⟩

/-- With the document's configuration a write request lies in the patch window (44_translator.md R223). -/
theorem writesOf_document_window {reqs : List FnRequest} {w : Nat × Byte} (h : w ∈ writesOf Config.document reqs) :
    0x5D00 ≤ w.1 ∧ w.1 < 0x6000 := by
  obtain ⟨bankId, cpuAddr, data, bank, -, hok, hw⟩ := mem_writesOf h
  obtain ⟨hlo, hhi⟩ := (patchOk_document_iff _ _).mp hok
  obtain ⟨i, hi, hoffset⟩ := mem_patchRequests hw
  rw [hoffset, fileOffset_of_below bank (by rw [Config.document_windowBase]; omega)]
  omega

/-- Settles O50: the writes of a step are those of the requests it answers; `PATCH_WRITE` alone has any, all in the
window. -/
theorem writesStayInThePatchWindow : Obligations.WritesStayInThePatchWindow := by
  intro s t hcfg h
  obtain ⟨reqs, himg, himage, hsource⟩ := step_writes h
  rw [hcfg] at himg himage
  refine ⟨writesOf Config.document reqs, himg, fun w hw => writesOf_document_window hw, ?_, ?_⟩
  · intro hne
    obtain ⟨w, hw⟩ := List.exists_mem_of_ne_nil _ hne
    obtain ⟨bankId, cpuAddr, data, -, hmem, -, -⟩ := mem_writesOf hw
    exact ⟨bankId, cpuAddr, data, hsource _ hmem⟩
  · intro a ha
    rw [himage]
    refine Memory.read_writeAll_other _ _ a fun w hw => ?_
    have := writesOf_document_window hw
    omega

end Machine
end Sys2Proof
end

section
/-! The error kinds of a step (60_exceptions.md R240, R257). -/

namespace Sys2Proof
namespace Machine

theorem FnResult.kind_eq_some_iff (a : FnResult) (k : ErrKind) : a.kind = some k ↔ a = .error k := by
  cases a <;> simp [FnResult.kind]

/-- The kind a list of answers raises is one of the answers. -/
theorem error_mem_of_firstKind {answers : List FnResult} {k : ErrKind} (h : firstKind answers = some k) :
    .error k ∈ answers := by
  obtain ⟨a, ha, hk⟩ := List.exists_of_findSome?_eq_some h
  rwa [(FnResult.kind_eq_some_iff a k).mp hk] at ha

/-- The kinds a dispatched frame leaves on a clear `err`. -/
theorem RequestEffect.err_cases {dev mode : Byte} {s t : State} (h : RequestEffect dev mode s t) (hclear : s.err = none)
    (herr : t.err ≠ none) :
    t.err ∈ [some .invalidLength, some .checksumMismatch, some .unknownMode, some .unauthorizedAccess] ∨
      ∃ k, t.err = some k ∧ k ∈ [.bankOutOfRange, .patchOverflow] ∧ t.calls ≠ s.calls ∧ .error k ∈ t.fnOut := by
  obtain ⟨reqs, hreqs, -, -, hout, hkinds⟩ := h.served
  rcases hkinds with e | e | e | e | ⟨k, hk, e⟩
  · exact absurd (e.trans hclear) herr
  · simp [e]
  · simp [e]
  · simp [e]
  · rcases firstKind_answersTo hk with rfl | hk'
    · simp [e]
    · refine .inr ⟨k, e, by simpa using hk', ?_, ?_⟩
      · rcases hreqs with rfl | ⟨hcalls, -⟩
        · simp at hk
        · exact hcalls
      · rw [hout]
        exact List.mem_append_right _ (error_mem_of_firstKind hk)

/-- Settles O60: framing errors by the automaton, a dispatched frame by `RequestEffect.err_cases`, a host's request by the
kinds a function port can raise. -/
theorem errorKindsHaveTheirCauses : Obligations.ErrorKindsHaveTheirCauses := by
  intro s t h hinput herr
  cases step_cases h with
  | idle hin _ => exact absurd hin hinput
  | waits _ _ _ _ _ ht => simp [ht] at herr
  | drops b rest k hin hbyte ht =>
    refine .inl ⟨b, rest, hin, ?_⟩
    rcases decoderStep_error hbyte with ⟨hstate, rfl⟩ | ⟨hstate, rfl⟩
    · exact .inl ⟨hstate, by simp [ht]⟩
    · exact .inr ⟨hstate, by simp [ht]⟩
  | delivers b rest f hdelivery =>
    have hstate : s.rxState = .waitChecksum := by rw [State.rxState, hdelivery.hrx]; rfl
    exact .inl ⟨b, rest, hdelivery.hin, .inr ⟨hstate, hdelivery.effect.err_cases rfl herr⟩⟩
  | event _ _ _ hrun => exact absurd (congrArg State.err (evt_next hrun).1 :) herr
  | serves r rest hin ht =>
    have hkind : t.err = (r.answer s.cfg).kind := by simp [ht]
    obtain ⟨k, hk⟩ := Option.ne_none_iff_exists'.mp herr
    rw [hkind] at hk
    refine .inr ⟨r, rest, hin, k, hkind.trans hk, by simpa using FnRequest.answer_kind hk, ?_⟩
    simp [ht, (FnResult.kind_eq_some_iff _ _).mp hk]

end Machine
end Sys2Proof
end

section
/-! Who writes the session (43_security.md R195, R200, R202). -/

namespace Sys2Proof
namespace Machine

theorem State.sessState_eq_unlocked_iff (s : State) :
    s.sessState = .unlocked ↔ ∃ hi lo, s.sess = .unlocked hi lo := by
  cases hs : s.sess <;> simp [State.sessState, hs]

theorem State.sessState_of_sess_eq {s t : State} (h : t.sess = s.sess) : t.sessState = s.sessState := by
  simp only [State.sessState, h]

/-- A seed request unlocks nothing (43_security.md R193). -/
theorem execSeedRequest_unlocks_not {dev submode : Byte} {s t : State} (h : execSeedRequest dev submode s = .next t)
    (hs : s.sessState ≠ .unlocked) : t.sessState ≠ .unlocked := by
  have hissued : (s.issueSeed.transmit none dev 13#8
      [submode, highByte s.nextDraw, lowByte s.nextDraw]).sessState ≠ .unlocked := by simp [State.sessState]
  unfold execSeedRequest at h
  split at h
  · cases h
    exact hissued
  · cases h
    exact hissued
  · rename_i hi lo hsess
    exact absurd (s.sessState_eq_unlocked_iff.mpr ⟨hi, lo, hsess⟩) hs

/-- A key submission unlocks only by the key of the recorded seed (43_security.md R195). -/
theorem execKeySubmit_unlocks {dev : Byte} {k : Word16} {s t : State} (h : execKeySubmit dev k s = .next t)
    (hs : s.sessState ≠ .unlocked) (ht : t.sessState = .unlocked) :
    ∃ hi lo, s.sess = .seedIssued hi lo ∧ t.sess = .unlocked hi lo ∧ k = keyOf s.cfg hi lo := by
  unfold execKeySubmit at h
  split at h
  · rename_i hsess
    cases h
    simp [State.sessState, hsess] at ht
  · rename_i hi lo hsess
    split at h
    · rename_i hkey
      cases h
      exact ⟨hi, lo, hsess, by simp, hkey⟩
    · cases h
      simp [State.sessState] at ht
  · rename_i hi lo hsess
    exact absurd (s.sessState_eq_unlocked_iff.mpr ⟨hi, lo, hsess⟩) hs

theorem secMalformed_keeps_session {dev : Byte} {payload : List Byte} {s t : State}
    (h : execSecMalformed dev payload s = .next t) : t.sess = s.sess := by
  cases h
  exact State.unknownMode_sess s dev 13#8

/-- A mode-13 frame unlocks only as the submission of the recorded seed's key. -/
theorem security_unlocks {f : Frame} {s t : State} (h : security f s = .next t) (hs : s.sessState ≠ .unlocked)
    (ht : t.sessState = .unlocked) :
    f.lengthByte = s.cfg.lenKeySubmit ∧ ∃ hi lo keyHi keyLo more, f.payload = keyHi :: keyLo :: more ∧
      s.sess = .seedIssued hi lo ∧ t.sess = .unlocked hi lo ∧ keyOfBytes keyHi keyLo = keyOf s.cfg hi lo := by
  have malformed : ∀ payload, execSecMalformed f.deviceId payload s = .next t → False := fun payload hm =>
    hs (State.sessState_of_sess_eq (secMalformed_keeps_session hm) ▸ ht)
  unfold security at h
  split at h
  · split at h
    · exact absurd ht (execSeedRequest_unlocks_not h hs)
    · exact (malformed _ h).elim
  · split at h
    · rename_i hlen
      split at h
      · rename_i keyHi keyLo more hpayload
        obtain ⟨hi, lo, hseed, hunlocked, hkey⟩ := execKeySubmit_unlocks h hs ht
        exact ⟨hlen, hi, lo, keyHi, keyLo, more, hpayload, hseed, hunlocked, hkey⟩
      · exact (malformed _ h).elim
    · exact (malformed _ h).elim

/-- A listed mode 13 goes to the Security Handshake (42_dispatcher.md R161). -/
theorem dispatch_mode13 {f : Frame} {s : State} (hmode : f.mode = 13#8) (hlisted : 13#8 ∈ s.cfg.modes) :
    dispatch f s = security f s := by
  rw [dispatch, hmode, if_pos (List.contains_iff_mem.mpr hlisted)]
  rfl

/-- Settles O30: only a dispatched frame unlocks, it is a mode-13 one, and `security_unlocks` says which. -/
theorem onlyTheMatchingKeyUnlocks : Obligations.OnlyTheMatchingKeyUnlocks := by
  intro s t hcfg h hs ht
  have hmoved : t.sess ≠ s.sess := fun e => hs (State.sessState_of_sess_eq e ▸ ht)
  cases step_cases h with
  | idle _ e => exact absurd (congrArg State.sess e) hmoved
  | waits _ _ _ _ _ e => exact absurd (congrArg State.sess e) hmoved
  | drops _ _ _ _ _ e => exact absurd (congrArg State.sess e) hmoved
  | delivers b rest f hdelivery =>
    obtain ⟨hin, hrx, hsum, hrun⟩ := hdelivery
    obtain ⟨hmode, -⟩ := dispatch_sess hrun hmoved
    rw [dispatch_mode13 hmode (by simp [hcfg])] at hrun
    obtain ⟨hlen, hi, lo, keyHi, keyLo, more, hpayload, hseed, hunlocked, hkey⟩ := security_unlocks hrun hs ht
    replace hlen : f.lengthByte = 0x58#8 := by rw [hlen]; simp [hcfg]
    rw [hlen, hmode, hpayload] at hrx hsum
    refine ⟨hi, lo, f.deviceId, keyHi, keyLo, b, more, rest, hseed, hunlocked, hin, hrx, fun hinv => ?_, hsum, ?_⟩
    · obtain ⟨hdecoder, -⟩ := hinv
      rw [hrx, hcfg] at hdecoder
      obtain ⟨-, -, hcount⟩ := hdecoder
      exact List.eq_nil_of_length_eq_zero (by simpa using hcount)
    · have hnumber := congrArg (fun k => (BitVec.toNat k : Int)) hkey
      simp only [keyOfBytes_toNat, keyOf_toNat, State.resetDecoder_cfg, State.begun_cfg, hcfg,
        Config.document_keyConstant, seedNumber_cast] at hnumber
      simpa using hnumber
  | event e rest hin hrun =>
    obtain ⟨-, hlocks, hkeeps, -, -⟩ := evt_next hrun
    cases he : e.resetsSession with
    | true => simp [State.sessState, hlocks he] at ht
    | false => exact absurd (hkeeps he) hmoved
  | serves _ _ _ e => exact absurd (congrArg State.sess e) hmoved

/-- A received byte changes the session only by delivering a mode-13 frame with a sub-request's length byte. -/
theorem exec_rx_sess {x : RxState} {b : Byte} {s t : State} (hx : s.rxState = x)
    (h : exec (decodeRx x b) s = .next t) (hmoved : t.sess ≠ s.sess) :
    ∃ dev len pay, s.rx = .waitChecksum dev len 13#8 pay ∧ b = checksum (frameBody dev len 13#8 pay) ∧
      (len = s.cfg.lenSeedRequest ∨ len = s.cfg.lenKeySubmit) := by
  subst hx
  rw [State.rxState, exec_decodeRx b rfl] at h
  rcases received_cases h with ⟨d, -, rfl⟩ | ⟨k, -, rfl⟩ | ⟨f, hbyte, hrun⟩
  · exact absurd rfl hmoved
  · exact absurd rfl hmoved
  · obtain ⟨hrx, -, hsum⟩ := decoderStep_done hbyte
    obtain ⟨hmode, hlen⟩ := dispatch_sess hrun hmoved
    rw [hmode] at hrx hsum
    exact ⟨f.deviceId, f.lengthByte, f.payload, hrx, hsum, hlen⟩

/-- An RX row run outside its decoder state faults by name (93_implementation_defined.md U5; log 13): each row's match on
the decoder has one arm that does not fault, the row's own. -/
theorem exec_decodeRx_of_ne {s : State} {x : RxState} (b : Byte) (hx : s.rxState ≠ x) :
    exec (decodeRx x b) s = .fault (.decoderNotIn x) := by
  unfold State.rxState at hx
  cases x <;> cases hrx : s.rx <;>
    simp_all [decodeRx, Decoder.state, exec, execRxWaitDevice, execRxWaitLength, execRxWaitMode, execRxWaitPayload,
      execRxWaitChecksum]

/-- Settles O4: the five rows are `decodeRx` of the five decoder states. -/
theorem rxRowFaultsOutsideItsState : Obligations.RxRowFaultsOutsideItsState := fun _ b =>
  ⟨exec_decodeRx_of_ne b, exec_decodeRx_of_ne b, exec_decodeRx_of_ne b, exec_decodeRx_of_ne b, exec_decodeRx_of_ne b⟩

/-- A row that answers runs in its own decoder state. -/
theorem rxState_of_exec_decodeRx {s t : State} {x : RxState} {b : Byte} (h : exec (decodeRx x b) s = .next t) :
    s.rxState = x := by
  by_contra hx
  rw [exec_decodeRx_of_ne b hx] at h
  cases h

/-- Settles O44: every operation but those named keeps the session; an RX row is a received byte in its own decoder
state. -/
theorem onlySecurityAndResetsWriteTheSession : Obligations.OnlySecurityAndResetsWriteTheSession := by
  intro i s t h hmoved
  have received : ∀ {x : RxState} {b : Byte}, exec (decodeRx x b) s = .next t → x = .waitChecksum ∧
      ∃ dev len pay, s.rx = .waitChecksum dev len 13#8 pay ∧ b = checksum (frameBody dev len 13#8 pay) ∧
        (len = s.cfg.lenSeedRequest ∨ len = s.cfg.lenKeySubmit) := by
    intro x b hrow
    have hx := rxState_of_exec_decodeRx hrow
    obtain ⟨dev, len, pay, hrx, hrest⟩ := exec_rx_sess hx hrow hmoved
    refine ⟨?_, dev, len, pay, hrx, hrest⟩
    rw [← hx, State.rxState, hrx]
    rfl
  cases i with
  | seedRequest dev submode => exact .inl ⟨dev, submode, rfl⟩
  | keySubmit dev k => exact .inr (.inl ⟨dev, k, rfl⟩)
  | secMalformed dev p => exact absurd (secMalformed_keeps_session (payload := p) h) hmoved
  | mode4ActuatorTest => exact absurd ((execMode4_effect h).sess.resolve_left hmoved).2 (by decide)
  | mode5FlashEntry | mode6UploadExecute =>
    cases h
    exact absurd (State.gated_sess ..) hmoved
  | mode1Datastream | mode2FreezeFrame | mode3DtcRead | mode7ClearDtc | mode8DisableChatter | mode9EnableChatter
  | mode10DiagNvram =>
    cases h
    exact absurd (State.forward_sess ..) hmoved
  | reservedMode =>
    cases h
    exact absurd (State.unknownMode_sess ..) hmoved
  | seedResponse | keyResultAccepted | keyResultRejected | responseRejected | responseFail | mode4Reply
  | handlerReply =>
    cases h
    exact absurd (State.transmit_sess ..) hmoved
  | rxWaitDevice b => exact absurd (received (x := .waitDevice) h).1 (by decide)
  | rxWaitLength b => exact absurd (received (x := .waitLength) h).1 (by decide)
  | rxWaitMode b => exact absurd (received (x := .waitMode) h).1 (by decide)
  | rxWaitPayload b => exact absurd (received (x := .waitPayload) h).1 (by decide)
  | rxWaitChecksum b =>
    obtain ⟨-, dev, len, pay, hrx, hsum, hlen⟩ := received (x := .waitChecksum) h
    exact .inr (.inr (.inl ⟨b, dev, len, pay, rfl, hrx, hsum, hlen⟩))
  | checksum | encode | computeKey | translate | patchCheck | patchWrite =>
    cases h
    exact absurd (State.served_sess ..) hmoved
  | cancel =>
    cases h
    exact absurd (State.resetDecoder_sess s) hmoved
  | powerOn | connect | busReset | disconnect | timeout => simp

/-- A received byte runs the row of the decoder's state (41_frame_codec.md R130). -/
theorem step_rx_row {x : RxState} (s : State) (b : Byte) (rest : List Input) (hin : s.inbox = .rx b :: rest)
    (hx : s.rxState = x) : step s = exec (decodeRx x b) (s.begun rest) := by
  rw [step_cons hin, ← hx]
  rfl

/-- Settles O2: a step fetches its first input, whose operation `Input.instr` names. -/
theorem stepRunsTheSelectedOperation : Obligations.StepRunsTheSelectedOperation :=
  ⟨fun _ => step_nil, step_rx_row (x := .waitDevice), step_rx_row (x := .waitLength), step_rx_row (x := .waitMode),
    step_rx_row (x := .waitPayload), step_rx_row (x := .waitChecksum), fun _ _ _ => step_cons, fun _ _ _ => step_cons⟩

end Machine
end Sys2Proof
end

section
/-! The header view: which opcode-table row a frame selects (30_encoding.md R86, R87, decision D34). -/

namespace Sys2Proof

/-- Bits 7:0 of the header are the mode (30_encoding.md R86). -/
theorem Frame.header_and_mode_mask (f : Frame) : f.header &&& 0xFF = f.mode.toNat := by
  have := f.mode.isLt
  rw [show 0xFF = 2 ^ 8 - 1 from rfl, Nat.and_two_pow_sub_one_eq_mod, Frame.header]
  omega

/-- Bits 15:0 of the header are the length byte and the mode (30_encoding.md R86). -/
theorem Frame.header_and_length_mode_mask (f : Frame) :
    f.header &&& 0xFFFF = f.lengthByte.toNat * 256 + f.mode.toNat := by
  have := f.mode.isLt
  have := f.lengthByte.isLt
  rw [show 0xFFFF = 2 ^ 16 - 1 from rfl, Nat.and_two_pow_sub_one_eq_mod, Frame.header]
  omega

/-- The row the table gives a length byte and a mode: rows 1 and 2 also look at the length byte, the others only at the
mode (30_encoding.md R87). -/
def rowOf (len mode : Nat) : RequestRow :=
  if len * 256 + mode = 0x570D then ⟨"SEED_REQUEST", 0x00570D, 0x00FFFF⟩
  else if len * 256 + mode = 0x580D then ⟨"KEY_SUBMIT", 0x00580D, 0x00FFFF⟩
  else if mode = 0x0D then ⟨"SEC_MALFORMED", 0x00000D, 0x0000FF⟩
  else if mode = 0x01 then ⟨"MODE1_DATASTREAM", 0x000001, 0x0000FF⟩
  else if mode = 0x02 then ⟨"MODE2_FREEZE_FRAME", 0x000002, 0x0000FF⟩
  else if mode = 0x03 then ⟨"MODE3_DTC_READ", 0x000003, 0x0000FF⟩
  else if mode = 0x04 then ⟨"MODE4_ACTUATOR_TEST", 0x000004, 0x0000FF⟩
  else if mode = 0x05 then ⟨"MODE5_FLASH_ENTRY", 0x000005, 0x0000FF⟩
  else if mode = 0x06 then ⟨"MODE6_UPLOAD_EXECUTE", 0x000006, 0x0000FF⟩
  else if mode = 0x07 then ⟨"MODE7_CLEAR_DTC", 0x000007, 0x0000FF⟩
  else if mode = 0x08 then ⟨"MODE8_DISABLE_CHATTER", 0x000008, 0x0000FF⟩
  else if mode = 0x09 then ⟨"MODE9_ENABLE_CHATTER", 0x000009, 0x0000FF⟩
  else if mode = 0x0A then ⟨"MODE10_DIAG_NVRAM", 0x00000A, 0x0000FF⟩
  else ⟨"RESERVED_MODE", 0x000000, 0x000000⟩

theorem firstRow_requestTable (f : Frame) :
    firstRow f.header requestTable = some (rowOf f.lengthByte.toNat f.mode.toNat) := by
  simp only [requestTable, List.cons_append, List.nil_append, firstRow, f.header_and_mode_mask,
    f.header_and_length_mode_mask, Nat.and_zero, rowOf, if_true, apply_ite some]

/-- Only mode 13 has rows that look at the length byte. -/
theorem rowOf_of_mode_ne_13 (len : Nat) {mode : Nat} (hlt : mode < 256) (hne : mode ≠ 13) :
    rowOf len mode = rowOf 0 mode := by
  have hrows : ∀ l, l * 256 + mode ≠ 0x570D ∧ l * 256 + mode ≠ 0x580D := fun l => by omega
  simp only [rowOf, hrows, if_false]

theorem rowOf_of_not_routed {m : Byte} (h : m ∉ Config.routedModes) :
    (rowOf 0 m.toNat).mnemonic = "RESERVED_MODE" := by
  revert m
  decide

/-- In mode 13 the table's two length rows are those of the payloads of one and of two bytes (30_encoding.md R87). -/
theorem rowOf_mode13_mnemonic (dev c : Byte) (payload : List Byte) (hfits : payload.length ≤ 169) :
    (rowOf (86 + payload.length) 13).mnemonic =
      (decodeSecurity Config.document ⟨dev, BitVec.ofNat 8 (86 + payload.length), 13#8, payload, c⟩).mnemonic := by
  rcases payload with _ | ⟨b₁, _ | ⟨b₂, _ | ⟨b₃, more⟩⟩⟩
  · rfl
  · simp [rowOf, decodeSecurity, Instr.mnemonic]
  · simp [rowOf, decodeSecurity, Instr.mnemonic]
  · simp only [List.length_cons] at hfits ⊢
    have hlen : ∀ n < 2, BitVec.ofNat 8 (86 + (more.length + 1 + 1 + 1)) ≠ BitVec.ofNat 8 (87 + n) := by
      intro n hn h
      have := congrArg BitVec.toNat h
      simp only [BitVec.toNat_ofNat] at this
      omega
    have hrow : ∀ n < 2, (86 + (more.length + 1 + 1 + 1)) * 256 + 13 ≠ (87 + n) * 256 + 13 := fun n hn => by omega
    have hseed : BitVec.ofNat 8 (86 + (more.length + 1 + 1 + 1)) ≠ Config.document.lenSeedRequest := hlen 0 (by decide)
    have hkey : BitVec.ofNat 8 (86 + (more.length + 1 + 1 + 1)) ≠ Config.document.lenKeySubmit := hlen 1 (by decide)
    rw [rowOf, if_neg (hrow 0 (by decide)), if_neg (hrow 1 (by decide)), decodeSecurity, if_neg hseed, if_neg hkey]
    rfl

/-- Settles O6: `rowOf` is the first matching row; in mode 13 the length byte tells the rows apart, in any other mode the
mode alone. -/
theorem decoderSelectsTheFirstMatchingRow : Obligations.DecoderSelectsTheFirstMatchingRow := by
  rintro ⟨dev, len, m, p, c⟩ hp hlen
  dsimp only at hp hlen
  subst hlen
  refine ⟨_, firstRow_requestTable _, ?_⟩
  dsimp only
  by_cases h13 : m = 13#8
  · subst h13
    have hlen : (BitVec.ofNat 8 (86 + p.length)).toNat = 86 + p.length := by
      rw [BitVec.toNat_ofNat]
      omega
    rw [hlen]
    exact rowOf_mode13_mnemonic dev c p hp
  · rw [rowOf_of_mode_ne_13 _ m.isLt fun h => h13 (BitVec.eq_of_toNat_eq h)]
    rcases (Machine.mode_cases m).resolve_left h13 with
      rfl | rfl | rfl | rfl | rfl | rfl | rfl | rfl | rfl | rfl | hgap
    case inr.inr.inr.inr.inr.inr.inr.inr.inr.inr =>
      rw [Machine.decodeRequest_reserved _ _ (.inr hgap)]
      exact rowOf_of_not_routed hgap
    all_goals rfl

end Sys2Proof
end

section
/-! An encoded frame determines its fields (30_encoding.md R80, R88). -/

namespace Sys2Proof

/-- The same frame comes from the same id, mode and payload. -/
theorem encodeFrame_inj {cfg : Config.Profile} {dev mode dev' mode' : Byte} {p p' f : List Byte}
    (h : encodeFrame cfg dev mode p = some f) (h' : encodeFrame cfg dev' mode' p' = some f) :
    dev = dev' ∧ mode = mode' ∧ p = p' := by
  have hf := isFrame_eq ((encodeFrame_eq_some_iff cfg dev mode p f).mp h)
  have hf' := isFrame_eq ((encodeFrame_eq_some_iff cfg dev' mode' p' f).mp h')
  obtain ⟨hbody, -⟩ := List.append_inj' (hf.symm.trans hf') rfl
  simp only [frameBody, List.cons.injEq] at hbody
  obtain ⟨hdev, -, hmode, hp⟩ := hbody
  exact ⟨hdev, hmode, hp⟩

/-- Settles O8: each reply row's operands stand in the id, the mode or the payload of its frame. -/
theorem replyFramesKeepEveryField : Obligations.ReplyFramesKeepEveryField := by
  intro cfg f
  refine ⟨fun d s h l d' s' h' l' e e' => ?_, fun d d' e e' => (encodeFrame_inj e e').1,
    fun d d' e e' => (encodeFrame_inj e e').1, fun d m d' m' e e' => ?_, fun d m d' m' e e' => ?_,
    fun d s d' s' e e' => ?_, fun d m p d' m' p' => encodeFrame_inj⟩
  · obtain ⟨hd, -, hp⟩ := encodeFrame_inj e e'
    simp only [List.cons.injEq, and_true] at hp
    exact ⟨hd, hp⟩
  · obtain ⟨hd, hm, -⟩ := encodeFrame_inj e e'
    exact ⟨hd, hm⟩
  · obtain ⟨hd, hm, -⟩ := encodeFrame_inj e e'
    exact ⟨hd, hm⟩
  · obtain ⟨hd, -, hp⟩ := encodeFrame_inj e e'
    exact ⟨hd, List.singleton_inj.mp hp⟩

end Sys2Proof
end

section
/-! The laws of the checksum (40_checksum.md, derived from R120). -/

namespace Sys2Proof

theorem byteSum_eq_sum_map (s : List Byte) : byteSum s = (s.map BitVec.toNat).sum := by
  induction s with
  | nil => rfl
  | cons b s ih => rw [byteSum_cons, ih, List.map_cons, List.sum_cons]

theorem byteSum_perm {s t : List Byte} (h : s.Perm t) : byteSum s = byteSum t := by
  rw [byteSum_eq_sum_map, byteSum_eq_sum_map]
  exact (h.map _).sum_eq

/-- The streaming form: an 8-bit running sum is the sum modulo 256. -/
theorem toNat_foldl_add (s : List Byte) (acc : Byte) :
    (s.foldl (fun acc b => acc + b) acc).toNat = (acc.toNat + byteSum s) % 256 := by
  induction s generalizing acc with
  | nil => exact (Nat.mod_eq_of_lt acc.isLt).symm
  | cons b s ih =>
    rw [List.foldl_cons, ih, BitVec.toNat_add, byteSum_cons]
    omega

/-- Settles O20: each law is a fact about `byteSum` modulo 256. -/
theorem checksumLawsHold : Obligations.ChecksumLawsHold := by
  refine ⟨fun s => ?_, fun s t => ?_, fun s t h => ?_, fun s t x y hne h => ?_, fun s => ?_⟩
  · refine ((eq_checksum_iff _ 0#8).mpr ?_).symm
    rw [byteSum_append, byteSum_cons, byteSum_nil]
    exact (eq_checksum_iff s _).mp rfl
  · rw [checksum_toNat, checksum_toNat, checksum_toNat, byteSum_append]
    omega
  · rw [checksum, checksum, byteSum_perm h]
  · have hsum := congrArg BitVec.toNat h
    rw [checksum_toNat, checksum_toNat, byteSum_append, byteSum_append, byteSum_cons, byteSum_cons] at hsum
    have := x.isLt
    have := y.isLt
    exact hne (BitVec.eq_of_toNat_eq (by omega))
  · refine ((eq_checksum_iff s _).mpr ?_).symm
    rw [BitVec.toNat_sub, toNat_foldl_add, BitVec.toNat_ofNat]
    omega

end Sys2Proof
end

section
/-! The key function inverts itself (43_security.md section 1, derived from R190). -/

namespace Sys2Proof
namespace Machine

/-- The formula of R190 with the document's constant. -/
theorem keyOf_document_toNat (seedHi seedLo : Byte) :
    ((keyOf Config.document seedHi seedLo).toNat : Int) = (37709 - (seedNumber seedHi seedLo : Int)) % 65536 := by
  rw [keyOf_toNat, Config.document_keyConstant, Nat.cast_ofNat]

theorem seedNumber_lt (seedHi seedLo : Byte) : seedNumber seedHi seedLo < 65536 := by
  have := seedHi.isLt
  have := seedLo.isLt
  rw [seedNumber]
  omega

/-- The seed number determines the two seed bytes. -/
theorem seedNumber_inj {hi lo hi' lo' : Byte} (h : seedNumber hi lo = seedNumber hi' lo') : hi = hi' ∧ lo = lo' := by
  have := hi.isLt
  have := hi'.isLt
  simp only [seedNumber] at h
  exact ⟨BitVec.eq_of_toNat_eq (by omega), BitVec.eq_of_toNat_eq (by omega)⟩

/-- Every 16-bit number is the seed number of two bytes. -/
theorem exists_seedNumber {n : Nat} (hn : n < 65536) : ∃ hi lo : Byte, seedNumber hi lo = n := by
  refine ⟨BitVec.ofNat 8 n, BitVec.ofNat 8 (n / 256), ?_⟩
  simp only [seedNumber, BitVec.toNat_ofNat]
  omega

/-- The seed is recovered from the key by the same formula. -/
theorem seedNumber_of_keyOf (seedHi seedLo : Byte) :
    (seedNumber seedHi seedLo : Int) = (37709 - ((keyOf Config.document seedHi seedLo).toNat : Int)) % 65536 := by
  have := seedNumber_lt seedHi seedLo
  rw [keyOf_document_toNat]
  omega

/-- Settles O24: equal keys give equal seed numbers, and the seed number of any key exists. -/
theorem computeKeyIsABijection : Obligations.ComputeKeyIsABijection := by
  refine ⟨fun hi lo hi' lo' h => seedNumber_inj ?_, fun k => ?_, seedNumber_of_keyOf⟩
  · have hseed := seedNumber_of_keyOf hi lo
    rw [h, ← seedNumber_of_keyOf] at hseed
    exact_mod_cast hseed
  · obtain ⟨hi, lo, hseed⟩ := exists_seedNumber (n := ((37709 - (k.toNat : Int)) % 65536).toNat) (by omega)
    refine ⟨hi, lo, BitVec.eq_of_toNat_eq ?_⟩
    have hkey := keyOf_document_toNat hi lo
    have := k.isLt
    rw [hseed] at hkey
    omega

end Machine
end Sys2Proof
end

section
/-! The laws of the translator (44_translator.md R221 to R223). -/

namespace Sys2Proof
namespace Machine

/-- The 32 KiB slot of the image a bank's window lands on, with the document's bases. -/
def bankSlot : Config.BankId → Nat
  | .bank1 => 0
  | .bank2 => 2
  | .bank3 => 3

theorem bankBase_document (bank : Config.BankId) : Config.document.bankBase bank = 0x8000 * bankSlot bank := by
  cases bank <;> rfl

/-- No bank lands on slot 1, and the last slot is 3. -/
theorem bankSlot_range (bank : Config.BankId) : bankSlot bank ≠ 1 ∧ bankSlot bank ≤ 3 := by
  cases bank <;> decide

theorem bankSlot_inj {bank bank' : Config.BankId} (h : bankSlot bank = bankSlot bank') : bank = bank' := by
  revert h
  cases bank <;> cases bank' <;> decide

theorem fileOffset_of_window {cfg : Config.Profile} (bank : Config.BankId) {addr : Nat} (h : cfg.windowBase ≤ addr) :
    fileOffset cfg bank addr = cfg.bankBase bank + (addr - cfg.windowBase) :=
  if_neg (Nat.not_lt.mpr h)

theorem fileOffset_document_below (bank : Config.BankId) {addr : Nat} (h : addr < 0x8000) :
    fileOffset Config.document bank addr = addr :=
  fileOffset_of_below bank h

theorem fileOffset_document_window (bank : Config.BankId) {addr : Nat} (h : 0x8000 ≤ addr) :
    fileOffset Config.document bank addr = 0x8000 * bankSlot bank + (addr - 0x8000) := by
  rw [fileOffset_of_window bank h, bankBase_document, Config.document_windowBase]

/-- Every offset is in one of the slots 0, 2 and 3 (20_memory.md R52). -/
theorem fileOffset_document_range (bank : Config.BankId) {addr : Nat} (h : addr ≤ 0xFFFF) :
    fileOffset Config.document bank addr ≤ 0x1FFFF ∧
      ¬ (0x8000 ≤ fileOffset Config.document bank addr ∧ fileOffset Config.document bank addr ≤ 0xFFFF) := by
  rcases Nat.lt_or_ge addr 0x8000 with hlo | hhi
  · rw [fileOffset_document_below bank hlo]
    omega
  · obtain ⟨hgap, hlast⟩ := bankSlot_range bank
    rw [fileOffset_document_window bank hhi]
    omega

/-- Settles O46: below 0x8000 the offset is the address, above it a slot and the distance into it. -/
theorem translationLawsHold : Obligations.TranslationLawsHold := by
  refine ⟨fun bank _ => fileOffset_document_below bank, fun bank addr hne _ => ?_, fun bank bank' a a' ha ha' hb hb' => ?_,
    fun bank k hk => ?_, fun bank _ => fileOffset_document_range bank, fun size bank a hsize ha => ?_⟩
  · rcases Nat.lt_or_ge addr 0x8000 with hlo | hhi
    · rw [fileOffset_document_below bank hlo, fileOffset_document_below bank (by omega)]
    · rw [fileOffset_document_window bank hhi, fileOffset_document_window bank (by omega)]
      omega
  · rw [fileOffset_document_window bank ha, fileOffset_document_window bank' hb]
    constructor
    · intro heq
      exact ⟨bankSlot_inj (by omega), by omega⟩
    · rintro ⟨rfl, rfl⟩
      rfl
  · rw [fileOffset_document_window .bank1 (Nat.le_add_right _ _), fileOffset_document_below bank hk, bankSlot]
    omega
  · have := (fileOffset_document_range bank ha).1
    omega

end Machine
end Sys2Proof
end

section
/-! The function ports of the translator, the patch window and the encoder (44_translator.md R221 to R226,
41_frame_codec.md R140). -/

namespace Sys2Proof
namespace Machine

/-- A function request of the host that raises no kind and writes nothing puts its answer on the port. -/
theorem exec_fn_of_only_answers {s : State} {r : FnRequest} {a : FnResult} (ha : r.answer s.cfg = a)
    (hkind : a.kind = none) (hwrites : r.writes s.cfg = []) :
    exec r.instr s = .next { s with fnOut := s.fnOut ++ [a] } := by
  subst ha
  rw [fn_exec, State.served_singleton_of_only_answers hkind hwrites]

/-- A function request of the host that fails raises its kind, answers it, and changes nothing else. -/
theorem exec_fn_of_error {s : State} {r : FnRequest} {k : ErrKind} (ha : r.answer s.cfg = .error k)
    (hwrites : r.writes s.cfg = []) :
    exec r.instr s = .next { s with err := some k, fnOut := s.fnOut ++ [.error k] } := by
  rw [fn_exec]
  simp [State.served, ha, hwrites, FnResult.kind]

/-- `PATCH_WRITE` alone has write requests (44_translator.md R225). -/
theorem FnRequest.writes_of_not_patchWrite (cfg : Config.Profile) {r : FnRequest}
    (h : ∀ bankId cpuAddr data, r ≠ .patchWrite bankId cpuAddr data) : r.writes cfg = [] := by
  cases r with
  | patchWrite bankId cpuAddr data => exact absurd rfl (h bankId cpuAddr data)
  | _ => rfl

/-- Settles O51: a function request is served alone, and only `PATCH_WRITE` has write requests. -/
theorem functionPortsTouchNoState : Obligations.FunctionPortsTouchNoState := by
  intro s r
  refine ⟨s.served [r], fn_exec s r, rfl, rfl, rfl, rfl, ⟨r.answer s.cfg, rfl⟩, fun hr => ?_⟩
  have hwrites := FnRequest.writes_of_not_patchWrite s.cfg hr
  constructor <;> simp [hwrites]

/-! `ENCODE` -/

/-- Settles O21: `encodeFrame` gives the frame of a payload that fits and refuses any other. -/
theorem encodePortAnswersAFrameOrRefuses : Obligations.EncodePortAnswersAFrameOrRefuses := by
  refine ⟨fun dev mode payload s => ⟨fun hmax hbyte => ?_, fun hlong => ?_⟩, fun n => ?_⟩
  · obtain ⟨f, henc, hf⟩ := exists_isFrame dev mode ((s.cfg.fits_iff payload.length).mpr ⟨hmax, hbyte⟩)
    refine ⟨f, hf, exec_fn_of_only_answers (r := .encode dev mode payload) ?_ rfl rfl⟩
    rw [FnRequest.answer, answerEncode, henc]
  · have hrefused : s.cfg.fits payload.length = false := by
      rw [← Bool.not_eq_true, s.cfg.fits_iff]
      omega
    refine exec_fn_of_error (r := .encode dev mode payload) ?_ rfl
    rw [FnRequest.answer, answerEncode, encodeFrame_of_too_long dev mode hrefused]
  · rw [← Config.document_fits_iff, Config.Profile.fits_iff]

/-! `TRANSLATE` -/

theorem bankOfCode_code1 (cfg : Config.Profile) : bankOfCode cfg cfg.bankCode1 = some .bank1 :=
  if_pos rfl

theorem bankOfCode_code2 {cfg : Config.Profile} (h12 : cfg.bankCode1 ≠ cfg.bankCode2) :
    bankOfCode cfg cfg.bankCode2 = some .bank2 := by
  rw [bankOfCode, if_neg h12.symm, if_pos rfl]

theorem bankOfCode_code3 {cfg : Config.Profile} (h13 : cfg.bankCode1 ≠ cfg.bankCode3)
    (h23 : cfg.bankCode2 ≠ cfg.bankCode3) : bankOfCode cfg cfg.bankCode3 = some .bank3 := by
  rw [bankOfCode, if_neg h13.symm, if_neg h23.symm, if_pos rfl]

theorem bankOfCode_of_unknown {cfg : Config.Profile} {code : Byte} (h1 : code ≠ cfg.bankCode1)
    (h2 : code ≠ cfg.bankCode2) (h3 : code ≠ cfg.bankCode3) : bankOfCode cfg code = none := by
  rw [bankOfCode, if_neg h1, if_neg h2, if_neg h3]

/-- An unrecognised bank is refused whatever the address is (decision D27). -/
theorem exec_translate_of_unknown_bank {s : State} {code : Byte} (addr : Word16) (h : bankOfCode s.cfg code = none) :
    exec (.translate code addr) s =
      .next { s with err := some .bankOutOfRange, fnOut := s.fnOut ++ [.error .bankOutOfRange] } := by
  refine exec_fn_of_error (r := .translate code addr) ?_ rfl
  rw [FnRequest.answer, answerTranslate, h]

theorem exec_translate_of_bank {s : State} {code : Byte} {bank : Config.BankId} (addr : Word16)
    (h : bankOfCode s.cfg code = some bank) :
    exec (.translate code addr) s = .next { s with fnOut := s.fnOut ++ [.offset (fileOffset s.cfg bank addr.toNat)] } := by
  refine exec_fn_of_only_answers (r := .translate code addr) ?_ rfl rfl
  rw [FnRequest.answer, answerTranslate, h]

theorem exec_translate_below {s : State} {code : Byte} {bank : Config.BankId} {addr : Word16}
    (h : bankOfCode s.cfg code = some bank) (hlo : addr.toNat < s.cfg.windowBase) :
    exec (.translate code addr) s = .next { s with fnOut := s.fnOut ++ [.offset addr.toNat] } := by
  rw [exec_translate_of_bank addr h, fileOffset_of_below bank hlo]

theorem exec_translate_window {s : State} {code : Byte} {bank : Config.BankId} {addr : Word16}
    (h : bankOfCode s.cfg code = some bank) (hhi : s.cfg.windowBase ≤ addr.toNat) :
    exec (.translate code addr) s =
      .next { s with fnOut := s.fnOut ++ [.offset (s.cfg.bankBase bank + (addr.toNat - s.cfg.windowBase))] } := by
  rw [exec_translate_of_bank addr h, fileOffset_of_window bank hhi]

/-- The clauses of `TRANSLATE` for a profile whose bank codes differ (44_translator.md R221). -/
theorem exec_translate_cases (bankId : Byte) (addr : Word16) (s : State) (h12 : s.cfg.bankCode1 ≠ s.cfg.bankCode2)
    (h13 : s.cfg.bankCode1 ≠ s.cfg.bankCode3) (h23 : s.cfg.bankCode2 ≠ s.cfg.bankCode3) :
    (bankId ≠ s.cfg.bankCode1 → bankId ≠ s.cfg.bankCode2 → bankId ≠ s.cfg.bankCode3 →
      exec (.translate bankId addr) s =
        .next { s with err := some .bankOutOfRange, fnOut := s.fnOut ++ [.error .bankOutOfRange] }) ∧
    (bankId = s.cfg.bankCode1 ∨ bankId = s.cfg.bankCode2 ∨ bankId = s.cfg.bankCode3 → addr.toNat < s.cfg.windowBase →
      exec (.translate bankId addr) s = .next { s with fnOut := s.fnOut ++ [.offset addr.toNat] }) ∧
    (s.cfg.windowBase ≤ addr.toNat →
      (bankId = s.cfg.bankCode1 → exec (.translate bankId addr) s = .next { s with
        fnOut := s.fnOut ++ [.offset (s.cfg.bankBase1 + (addr.toNat - s.cfg.windowBase))] }) ∧
      (bankId = s.cfg.bankCode2 → exec (.translate bankId addr) s = .next { s with
        fnOut := s.fnOut ++ [.offset (s.cfg.bankBase2 + (addr.toNat - s.cfg.windowBase))] }) ∧
      (bankId = s.cfg.bankCode3 → exec (.translate bankId addr) s = .next { s with
        fnOut := s.fnOut ++ [.offset (s.cfg.bankBase3 + (addr.toNat - s.cfg.windowBase))] })) := by
  have bank1 := bankOfCode_code1 s.cfg
  have bank2 := bankOfCode_code2 h12
  have bank3 := bankOfCode_code3 h13 h23
  refine ⟨fun n1 n2 n3 => exec_translate_of_unknown_bank addr (bankOfCode_of_unknown n1 n2 n3), ?_, fun hhi => ⟨?_, ?_, ?_⟩⟩
  · rintro (rfl | rfl | rfl) hlo
    · exact exec_translate_below bank1 hlo
    · exact exec_translate_below bank2 hlo
    · exact exec_translate_below bank3 hlo
  · rintro rfl
    exact exec_translate_window bank1 hhi
  · rintro rfl
    exact exec_translate_window bank2 hhi
  · rintro rfl
    exact exec_translate_window bank3 hhi

/-- Settles O45: the document's bank codes differ, so its clause is the general one with its numbers. -/
theorem translatePortFollowsTheBankBases : Obligations.TranslatePortFollowsTheBankBases := by
  intro bankId addr s
  refine ⟨exec_translate_cases bankId addr s, fun hcfg => ?_⟩
  have hcases := exec_translate_cases bankId addr s (by rw [hcfg]; decide) (by rw [hcfg]; decide) (by rw [hcfg]; decide)
  rw [hcfg] at hcases
  rw [hcfg]
  exact hcases

/-! `PATCH_CHECK` and `PATCH_WRITE` -/

/-- Settles O47: the check is `patchOk`, which with the document's window is the stated condition. -/
theorem patchCheckPortGuardsTheWindow : Obligations.PatchCheckPortGuardsTheWindow := by
  intro addr len s hcfg
  refine ⟨fun hlo hhi => ?_, fun hout => ?_⟩
  · refine exec_fn_of_only_answers (r := .patchCheck addr len) ?_ rfl rfl
    rw [FnRequest.answer, answerPatchCheck, hcfg, if_pos ((patchOk_document_iff _ _).mpr ⟨hlo, hhi⟩)]
  · refine exec_fn_of_error (r := .patchCheck addr len) ?_ rfl
    rw [FnRequest.answer, answerPatchCheck, hcfg, if_neg (mt (patchOk_document_iff _ _).mp hout)]

/-- A `PATCH_WRITE` whose plan fails answers that kind and writes nothing (44_translator.md R226). -/
theorem exec_patchWrite_of_error {s : State} {bankId : Byte} {addr : Word16} {data : List Byte} {k : ErrKind}
    (h : patchPlan s.cfg bankId addr data = .error k) :
    exec (.patchWrite bankId addr data) s = .next { s with err := some k, fnOut := s.fnOut ++ [.error k] } := by
  refine exec_fn_of_error (r := .patchWrite bankId addr data) ?_ ?_
  · rw [FnRequest.answer, answerPatchWrite, h]
  · rw [FnRequest.writes, writesOfPatch, h]

theorem patchPlan_of_outside {cfg : Config.Profile} (bankId : Byte) {addr : Word16} {data : List Byte}
    (h : ¬ patchOk cfg addr.toNat data.length = true) : patchPlan cfg bankId addr data = .error .patchOverflow :=
  if_neg h

theorem patchPlan_of_unknown_bank {cfg : Config.Profile} {bankId : Byte} {addr : Word16} {data : List Byte}
    (h : patchOk cfg addr.toNat data.length = true) (hbank : bankOfCode cfg bankId = none) :
    patchPlan cfg bankId addr data = .error .bankOutOfRange := by
  rw [patchPlan, if_pos h, hbank]

theorem patchPlan_of_bank {cfg : Config.Profile} {bankId : Byte} {addr : Word16} {data : List Byte}
    {bank : Config.BankId} (h : patchOk cfg addr.toNat data.length = true) (hbank : bankOfCode cfg bankId = some bank) :
    patchPlan cfg bankId addr data = .ok (patchRequests cfg bank addr.toNat data) := by
  rw [patchPlan, if_pos h, hbank]

/-- Settles O49: the window is tested before the bank, and a plan that fails has no write requests. -/
theorem failingPatchWriteWritesNothing : Obligations.FailingPatchWriteWritesNothing := by
  intro bankId addr data s hcfg
  refine ⟨fun hout => ?_, fun hlo hhi n1 n2 n3 => ?_⟩
  · refine exec_patchWrite_of_error (patchPlan_of_outside bankId ?_)
    rwa [hcfg, patchOk_document_iff]
  · refine exec_patchWrite_of_error (patchPlan_of_unknown_bank ?_ ?_)
    · rw [hcfg]
      exact (patchOk_document_iff _ _).mpr ⟨hlo, hhi⟩
    · rw [hcfg]
      exact bankOfCode_of_unknown n1 n2 n3

theorem exec_patchWrite_of_ok {s : State} {bankId : Byte} {addr : Word16} {data : List Byte} {w : List (Nat × Byte)}
    (h : patchPlan s.cfg bankId addr data = .ok w) :
    exec (.patchWrite bankId addr data) s =
      .next { s with img := s.img ++ w, image := s.image.writeAll w, fnOut := s.fnOut ++ [.ok] } := by
  have hanswer : (FnRequest.patchWrite bankId addr data).answer s.cfg = .ok := by
    rw [FnRequest.answer, answerPatchWrite, h]
  have hwrites : (FnRequest.patchWrite bankId addr data).writes s.cfg = w := by
    rw [FnRequest.writes, writesOfPatch, h]
  refine (fn_exec s (.patchWrite bankId addr data)).trans ?_
  simp [State.served, hanswer, hwrites, FnResult.kind]

theorem patchRequests_length (cfg : Config.Profile) (bank : Config.BankId) (addr : Nat) (data : List Byte) :
    (patchRequests cfg bank addr data).length = data.length := by
  induction data generalizing addr with
  | nil => rfl
  | cons b data ih => rw [patchRequests, List.length_cons, ih, List.length_cons]

/-- The i-th write request of a patch is of the i-th byte, at the offset of the i-th address. -/
theorem patchRequests_getElem? (cfg : Config.Profile) (bank : Config.BankId) (addr : Nat) (data : List Byte) (i : Nat) :
    (patchRequests cfg bank addr data)[i]? = data[i]?.map fun b => (fileOffset cfg bank (addr + i), b) := by
  induction data generalizing addr i with
  | nil => rfl
  | cons b data ih =>
    cases i with
    | zero => rfl
    | succ i => rw [patchRequests, List.getElem?_cons_succ, ih, List.getElem?_cons_succ, Nat.add_right_comm, Nat.add_assoc]

/-- Below WINDOW_BASE the write requests of a patch lie in its address range. -/
theorem patchRequests_range {cfg : Config.Profile} {bank : Config.BankId} {addr : Nat} {data : List Byte}
    (hbelow : addr + data.length ≤ cfg.windowBase) {w : Nat × Byte} (h : w ∈ patchRequests cfg bank addr data) :
    addr ≤ w.1 ∧ w.1 < addr + data.length := by
  obtain ⟨i, hi, hw⟩ := mem_patchRequests h
  rw [hw, fileOffset_of_below bank (by omega)]
  omega

/-- Below WINDOW_BASE the image view reads the data of a patch at its addresses. -/
theorem read_writeAll_patchRequests {cfg : Config.Profile} (bank : Config.BankId) (m : Memory) {addr : Nat}
    {data : List Byte} (hbelow : addr + data.length ≤ cfg.windowBase) {i : Nat} (hi : i < data.length) :
    Memory.read (m.writeAll (patchRequests cfg bank addr data)) (addr + i) = data[i]? := by
  induction data generalizing m addr i with
  | nil => exact absurd hi (Nat.not_lt_zero i)
  | cons b data ih =>
    simp only [List.length_cons] at hbelow hi
    rw [patchRequests, Memory.writeAll, fileOffset_of_below bank (by omega)]
    cases i with
    | zero =>
      rw [Memory.read_writeAll_other]
      · exact Memory.read_write_same m addr b
      · intro w hw
        have := patchRequests_range (by omega) hw
        omega
    | succ i =>
      rw [List.getElem?_cons_succ, ← ih (m.write addr b) (addr := addr + 1) (by omega) (Nat.lt_of_succ_lt_succ hi),
        Nat.add_right_comm, Nat.add_assoc]

theorem exists_bankOfCode_document {bankId : Byte} (h : bankId = 1#8 ∨ bankId = 2#8 ∨ bankId = 3#8) :
    ∃ bank, bankOfCode Config.document bankId = some bank := by
  rcases h with rfl | rfl | rfl
  · exact ⟨.bank1, rfl⟩
  · exact ⟨.bank2, rfl⟩
  · exact ⟨.bank3, rfl⟩

/-- Settles O48: the window lies below WINDOW_BASE, so every request of the plan is at its own address. -/
theorem patchWriteIssuesEveryByteInOrder : Obligations.PatchWriteIssuesEveryByteInOrder := by
  intro bankId addr data s hcfg hbankId hlo hhi
  obtain ⟨bank, hbank⟩ := exists_bankOfCode_document hbankId
  have hplan : patchPlan s.cfg bankId addr data = .ok (patchRequests Config.document bank addr.toNat data) := by
    rw [hcfg, patchPlan_of_bank ((patchOk_document_iff _ _).mpr ⟨hlo, hhi⟩) hbank]
  have hbelow : addr.toNat + data.length ≤ Config.document.windowBase := by
    rw [Config.document_windowBase]
    omega
  refine ⟨_, _, exec_patchWrite_of_ok hplan, patchRequests_length .., fun i hi => ?_,
    fun i hi => read_writeAll_patchRequests bank s.image hbelow hi, fun a ha => ?_⟩
  · rw [patchRequests_getElem?, fileOffset_of_below bank (by omega)]
  · refine Memory.read_writeAll_other _ _ a fun w hw => ?_
    have := patchRequests_range hbelow hw
    omega

end Machine
end Sys2Proof
end

section
/-! Replies with the document's configuration, whose frames hold every reply of the block's own (30_encoding.md R88). -/

namespace Sys2Proof
namespace Machine

/-- With the document's values a payload of at most 169 bytes is transmitted (90_conflicts.md C1). -/
theorem State.transmits_document {s : State} (raised : Option ErrKind) (dev mode : Byte) {p : List Byte}
    (hcfg : s.cfg = Config.document) (hp : p.length ≤ 169) :
    Transmits s dev mode p (.next (s.transmit raised dev mode p)) := by
  refine s.transmits_of_fits raised dev mode ?_
  rwa [hcfg, Config.document_fits_iff]

theorem State.transmits_responseRejected {s : State} (raised : Option ErrKind) (dev mode : Byte)
    (hcfg : s.cfg = Config.document) : Transmits s dev mode [0xCC#8] (.next (s.sendRejected raised dev mode)) := by
  rw [State.sendRejected, hcfg]
  exact State.transmits_document raised dev mode hcfg (by decide)

theorem State.transmits_responseFail {s : State} (raised : Option ErrKind) (dev mode : Byte)
    (hcfg : s.cfg = Config.document) : Transmits s dev mode [0x55#8] (.next (s.sendFail raised dev mode)) := by
  rw [State.sendFail, hcfg]
  exact State.transmits_document raised dev mode hcfg (by decide)

theorem transmits_keyResultAccepted {s : State} (dev : Byte) (hcfg : s.cfg = Config.document) :
    Transmits s dev 13#8 [0xAA#8] (execKeyResultAccepted dev s) := by
  rw [execKeyResultAccepted, hcfg]
  exact State.transmits_document none dev 13#8 hcfg (by decide)

theorem transmits_keyResultRejected {s : State} (dev : Byte) (hcfg : s.cfg = Config.document) :
    Transmits s dev 13#8 [0xCC#8] (execKeyResultRejected dev s) := by
  rw [execKeyResultRejected, hcfg]
  exact State.transmits_document none dev 13#8 hcfg (by decide)

/-- Settles O41: each row transmits a payload of at most three bytes, which the document's frames hold. -/
theorem replyRowsTransmitTheirFrames : Obligations.ReplyRowsTransmitTheirFrames := fun _ hcfg =>
  ⟨fun dev _ _ _ => State.transmits_document none dev 13#8 hcfg (by simp),
    fun dev => transmits_keyResultAccepted dev hcfg, fun dev => transmits_keyResultRejected dev hcfg,
    fun dev mode => State.transmits_responseRejected none dev mode hcfg,
    fun dev mode => State.transmits_responseFail none dev mode hcfg,
    fun dev _ => State.transmits_document none dev 4#8 hcfg (by simp)⟩

/-- Settles O42: a reply that fits is transmitted, a longer one only decides `err`. -/
theorem handlerReplyIsFramedOrRefused : Obligations.HandlerReplyIsFramedOrRefused :=
  ⟨fun dev mode _ s => ⟨fun hfits => s.transmits_of_fits none dev mode hfits,
    fun hlong => congrArg Host.Outcome.next (s.transmit_of_too_long none dev mode hlong)⟩, Config.document_fits_iff⟩

/-- An unrecognised request is answered 0x55 with UnknownMode and changes nothing else (42_dispatcher.md R170). -/
theorem State.transmits_unknownMode {s : State} (dev mode : Byte) (hcfg : s.cfg = Config.document) :
    Transmits { s with err := some .unknownMode } dev mode [0x55#8] (.next (s.unknownMode dev mode)) :=
  State.transmits_responseFail (s := s.raise .unknownMode) (some .unknownMode) dev mode hcfg

/-- A refused request is answered 0xCC with UnauthorizedAccess and changes nothing else (42_dispatcher.md R164). -/
theorem State.transmits_unauthorized {s : State} (dev mode : Byte) (hcfg : s.cfg = Config.document) :
    Transmits { s with err := some .unauthorizedAccess } dev mode [0xCC#8] (.next (s.unauthorized dev mode)) :=
  State.transmits_responseRejected (s := s.raise .unauthorizedAccess) (some .unauthorizedAccess) dev mode hcfg

/-- Settles O40: a reserved mode is an unrecognised request. -/
theorem reservedModeIsAnsweredFail : Obligations.ReservedModeIsAnsweredFail := fun dev mode _ _ hcfg =>
  State.transmits_unknownMode dev mode hcfg

/-- Settles O29: a mode-13 request of another length is an unrecognised request. -/
theorem malformedSecurityRequestIsAnsweredFail : Obligations.MalformedSecurityRequestIsAnsweredFail :=
  fun dev _ _ hcfg => State.transmits_unknownMode dev 13#8 hcfg

end Machine
end Sys2Proof
end

section
/-! Handler calls and the gate of modes 5 and 6 (42_dispatcher.md R163 to R169). -/

namespace Sys2Proof
namespace Machine

/-- Settles O37: mode 1 is forwarded. -/
theorem mode1ForwardsToTelemetry : Obligations.Mode1ForwardsToTelemetry := fun dev payload s =>
  s.forward_spec .telemetry dev 1#8 payload

/-- Settles O38: each of the six modes is forwarded to the handler of its number. -/
theorem namedModesForwardToExternalHandlers : Obligations.NamedModesForwardToExternalHandlers := fun dev payload s =>
  ⟨s.forward_spec (.ext 2#8) dev 2#8 payload, s.forward_spec (.ext 3#8) dev 3#8 payload,
    s.forward_spec (.ext 7#8) dev 7#8 payload, s.forward_spec (.ext 8#8) dev 8#8 payload,
    s.forward_spec (.ext 9#8) dev 9#8 payload, s.forward_spec (.ext 10#8) dev 10#8 payload⟩

/-- The gate is closed in LOCKED and SEED_ISSUED (42_dispatcher.md R164). -/
theorem State.gated_of_not_unlocked {s : State} (h : Handler) (dev mode : Byte) (payload : List Byte)
    (hs : s.sessState ≠ .unlocked) : s.gated h dev mode payload = s.unauthorized dev mode := by
  unfold State.gated
  split
  · rfl
  · rfl
  · rename_i hi lo hsess
    exact absurd (s.sessState_eq_unlocked_iff.mpr ⟨hi, lo, hsess⟩) hs

/-- The gate is open in UNLOCKED (42_dispatcher.md R167, R168). -/
theorem State.gated_of_unlocked {s : State} (h : Handler) (dev mode : Byte) (payload : List Byte)
    (hs : s.sessState = .unlocked) : s.gated h dev mode payload = s.forward h dev mode payload := by
  obtain ⟨hi, lo, hsess⟩ := s.sessState_eq_unlocked_iff.mp hs
  rw [State.gated, hsess]

theorem exec_mode5 (dev : Byte) (payload : List Byte) (s : State) :
    exec (.mode5FlashEntry dev payload) s = .next (s.gated .flashEntry dev 5#8 payload) := rfl

theorem exec_mode6 (dev : Byte) (payload : List Byte) (s : State) :
    exec (.mode6UploadExecute dev payload) s = .next (s.gated .upload dev 6#8 payload) := rfl

/-- Settles O33: outside UNLOCKED the gate refuses. -/
theorem gateRejectsModes5And6OutsideUnlocked : Obligations.GateRejectsModes5And6OutsideUnlocked := by
  intro dev payload s hcfg hs
  rw [exec_mode5, exec_mode6, State.gated_of_not_unlocked _ _ _ _ hs, State.gated_of_not_unlocked _ _ _ _ hs]
  exact ⟨State.transmits_unauthorized dev 5#8 hcfg, State.transmits_unauthorized dev 6#8 hcfg⟩

/-- Settles O34: in UNLOCKED the gate forwards. -/
theorem gatePassesModes5And6InUnlocked : Obligations.GatePassesModes5And6InUnlocked := by
  intro dev payload s hs
  rw [exec_mode5, exec_mode6, State.gated_of_unlocked _ _ _ _ hs, State.gated_of_unlocked _ _ _ _ hs]
  exact ⟨s.forward_spec .flashEntry dev 5#8 payload, s.forward_spec .upload dev 6#8 payload⟩

/-- Settles O39: the callback is called with the first byte and its status answered; an empty payload is an unrecognised
request. -/
theorem mode4CallsOutputAndAnswersItsStatus : Obligations.Mode4CallsOutputAndAnswersItsStatus := by
  intro dev s hcfg
  refine ⟨fun controlByte _ => ?_, State.transmits_unknownMode dev 4#8 hcfg⟩
  obtain ⟨idx, hafter⟩ := s.afterStatus_eq
  refine ⟨idx, (s.afterStatus.called (.output controlByte)).served s.nextStatus.requests, ?_, ?_⟩
  · rw [hafter]
    exact State.called_served _ _ _
  · exact State.transmits_document _ dev 4#8 (by simpa using hcfg) (by simp)

end Machine
end Sys2Proof
end

section
/-! The handshake: seeds issued and keys compared (43_security.md R193 to R198). -/

namespace Sys2Proof

theorem highByte_eq_extractLsb' (w : Word16) : highByte w = w.extractLsb' 8 8 := by
  apply BitVec.eq_of_toNat_eq
  simp [highByte, Nat.shiftRight_eq_div_pow]

theorem lowByte_eq_extractLsb' (w : Word16) : lowByte w = w.extractLsb' 0 8 := by
  apply BitVec.eq_of_toNat_eq
  simp [lowByte]

namespace Machine

/-- A seed request served: LOCKED and SEED_ISSUED by decision D20 (43_security.md R193). -/
theorem exec_seedRequest_of_not_unlocked {s : State} (dev submode : Byte) (hs : s.sessState ≠ .unlocked) :
    exec (.seedRequest dev submode) s =
      .next (s.issueSeed.transmit none dev 13#8 [submode, highByte s.nextDraw, lowByte s.nextDraw]) := by
  change execSeedRequest dev submode s = _
  unfold execSeedRequest
  split
  · rfl
  · rfl
  · rename_i hi lo hsess
    exact absurd (s.sessState_eq_unlocked_iff.mpr ⟨hi, lo, hsess⟩) hs

theorem exec_seedRequest_of_unlocked {s : State} (dev submode : Byte) (hs : s.sessState = .unlocked) :
    exec (.seedRequest dev submode) s = .next (s.sendRejected none dev 13#8) := by
  obtain ⟨hi, lo, hsess⟩ := s.sessState_eq_unlocked_iff.mp hs
  change execSeedRequest dev submode s = _
  rw [execSeedRequest, hsess]
  rfl

theorem State.issueSeed_eq (s : State) : ∃ idx, s.issueSeed =
    { s with drawIn := s.drawIn.tail, freeIdx := idx, sess := .seedIssued (highByte s.nextDraw) (lowByte s.nextDraw) } := by
  obtain ⟨idx, hafter⟩ := s.afterDraw_eq
  exact ⟨idx, by rw [State.issueSeed, hafter]⟩

/-- A seed request served answers the recorded seed, in a profile whose frames hold three bytes. -/
theorem transmits_seedRequest {s : State} (dev submode : Byte) (hs : s.sessState ≠ .unlocked)
    (hfits : s.cfg.fits 3 = true) : Transmits s.issueSeed dev 13#8 [submode, highByte s.nextDraw, lowByte s.nextDraw]
      (exec (.seedRequest dev submode) s) := by
  rw [exec_seedRequest_of_not_unlocked dev submode hs]
  exact State.transmits_of_fits _ none dev 13#8 (by rw [State.issueSeed_cfg]; exact hfits)

/-- Settles O25: the two bytes of the draw are recorded and answered; a frame too short for three bytes is refused. -/
theorem seedRequestIssuesTheDrawnSeed : Obligations.SeedRequestIssuesTheDrawnSeed := by
  refine ⟨fun dev submode s hs => ?_, rfl⟩
  obtain ⟨idx, hissue⟩ := s.issueSeed_eq
  refine ⟨idx, highByte s.nextDraw, lowByte s.nextDraw, highByte_eq_extractLsb' _, lowByte_eq_extractLsb' _, ?_, ?_⟩
  · intro hfits
    rw [← hissue]
    exact transmits_seedRequest dev submode hs hfits
  · intro hlong
    rw [exec_seedRequest_of_not_unlocked dev submode hs, hissue, State.transmit_of_too_long _ none dev 13#8 hlong]
    rfl

/-- Settles O26: in UNLOCKED the request is answered 0xCC. -/
theorem seedRequestInUnlockedIsRejected : Obligations.SeedRequestInUnlockedIsRejected := by
  intro dev submode s hcfg hs
  rw [exec_seedRequest_of_unlocked dev submode hs]
  exact State.transmits_responseRejected none dev 13#8 hcfg

theorem exec_keySubmit_of_locked {s : State} (dev : Byte) (k : Word16) (hs : s.sess = .locked) :
    exec (.keySubmit dev k) s = execKeyResultRejected dev s := by
  change execKeySubmit dev k s = _
  rw [execKeySubmit, hs]

theorem exec_keySubmit_of_unlocked {s : State} {hi lo : Byte} (dev : Byte) (k : Word16) (hs : s.sess = .unlocked hi lo) :
    exec (.keySubmit dev k) s = execKeyResultAccepted dev s := by
  change execKeySubmit dev k s = _
  rw [execKeySubmit, hs]

theorem exec_keySubmit_of_right_key {s : State} {hi lo : Byte} (dev : Byte) {k : Word16} (hs : s.sess = .seedIssued hi lo)
    (hk : k = keyOf s.cfg hi lo) :
    exec (.keySubmit dev k) s = execKeyResultAccepted dev { s with sess := .unlocked hi lo } := by
  change execKeySubmit dev k s = _
  rw [execKeySubmit, hs]
  exact if_pos hk

theorem exec_keySubmit_of_wrong_key {s : State} {hi lo : Byte} (dev : Byte) {k : Word16} (hs : s.sess = .seedIssued hi lo)
    (hk : k ≠ keyOf s.cfg hi lo) : exec (.keySubmit dev k) s = execKeyResultRejected dev { s with sess := .locked } := by
  change execKeySubmit dev k s = _
  rw [execKeySubmit, hs]
  exact if_neg hk

/-- A key is the document's key of a seed exactly when it has the value of R190's formula. -/
theorem eq_keyOf_document_iff (k : Word16) (hi lo : Byte) :
    k = keyOf Config.document hi lo ↔ (k.toNat : Int) = (37709 - ((lo.toNat : Int) * 256 + hi.toNat)) % 65536 := by
  rw [← seedNumber_cast, ← keyOf_document_toNat, Nat.cast_inj, BitVec.toNat_inj]

/-- Settles O27: the comparison is with the key of the recorded seed. -/
theorem keySubmitUnlocksExactlyOnEquality : Obligations.KeySubmitUnlocksExactlyOnEquality := by
  intro dev submitted hi lo s hcfg hs
  rw [ne_eq, ← eq_keyOf_document_iff]
  constructor
  · intro hkey
    rw [exec_keySubmit_of_right_key dev hs (by rw [hcfg]; exact hkey)]
    exact transmits_keyResultAccepted dev hcfg
  · intro hkey
    rw [exec_keySubmit_of_wrong_key dev hs (by rw [hcfg]; exact hkey)]
    exact transmits_keyResultRejected dev hcfg

theorem State.sessState_eq_locked_iff (s : State) : s.sessState = .locked ↔ s.sess = .locked := by
  cases hs : s.sess <;> simp [State.sessState, hs]

/-- Settles O28: outside SEED_ISSUED the session alone decides the answer. -/
theorem keySubmitOutsideSeedIssuedChangesNothing : Obligations.KeySubmitOutsideSeedIssuedChangesNothing := by
  intro dev submitted s hcfg
  constructor
  · intro hlocked
    rw [exec_keySubmit_of_locked dev submitted (s.sessState_eq_locked_iff.mp hlocked)]
    exact transmits_keyResultRejected dev hcfg
  · intro hunlocked
    obtain ⟨hi, lo, hs⟩ := s.sessState_eq_unlocked_iff.mp hunlocked
    rw [exec_keySubmit_of_unlocked dev submitted hs]
    exact transmits_keyResultAccepted dev hcfg

/-- Settles O32: the event locks the session, and a key submitted in LOCKED is rejected. -/
theorem keyAfterASessionResetIsRejected : Obligations.KeyAfterASessionResetIsRejected := by
  intro s e dev submitted hcfg hresets
  obtain ⟨t, ht, hframe, hlocks, -⟩ := evt_effect s e
  have hlocked := hlocks hresets
  obtain ⟨f, hf, hu⟩ := transmits_keyResultRejected (s := t) dev ((congrArg State.cfg hframe).trans hcfg)
  refine ⟨t, _, ht, (exec_keySubmit_of_locked dev submitted hlocked).trans hu, hlocked, f, ?_, ?_⟩
  · rwa [congrArg State.cfg hframe] at hf
  · exact congrArg (· ++ f) (congrArg State.tx hframe :)

/-- An outcome that transmits is a next state, with the configuration, the session and the calls as they were. -/
theorem Transmits.exists_next {s : State} {dev mode : Byte} {p : List Byte} {o : Host.Outcome State Fault Refusal}
    (h : Transmits s dev mode p o) :
    ∃ t, o = .next t ∧ Transmits s dev mode p (.next t) ∧ t.cfg = s.cfg ∧ t.sess = s.sess ∧ t.calls = s.calls := by
  obtain ⟨f, hf, rfl⟩ := h
  exact ⟨_, rfl, ⟨f, hf, rfl⟩, rfl, rfl, rfl⟩

/-- Settles O35: the gate refuses in LOCKED and in SEED_ISSUED, the key of the issued seed unlocks, and the gate then
forwards the identical request. -/
theorem uploadIsDispatchedOnceUnlocked : Obligations.UploadIsDispatchedOnceUnlocked := by
  intro dev submode payload s hcfg hs
  have rejected : ∀ a : State, a.cfg = Config.document → a.sessState ≠ .unlocked →
      Transmits { a with err := some .unauthorizedAccess } dev 6#8 [0xCC#8] (exec (.mode6UploadExecute dev payload) a) :=
    fun a hacfg ha => (gateRejectsModes5And6OutsideUnlocked dev payload a hacfg ha).2
  obtain ⟨r, hr, hrSent, hrCfg, hrSess, hrCalls⟩ := (rejected s hcfg (by simp [State.sessState, hs])).exists_next
  have hrLocked : r.sessState ≠ .unlocked := by simp [State.sessState, hrSess, hs]
  obtain ⟨q, hq, hqSent, hqCfg, hqSess, hqCalls⟩ :=
    (transmits_seedRequest dev submode hrLocked (by rw [hrCfg, hcfg]; rfl)).exists_next
  rw [State.issueSeed_sess] at hqSess
  rw [State.issueSeed_calls, hrCalls] at hqCalls
  rw [State.issueSeed_cfg, hrCfg, hcfg] at hqCfg
  have hqIssued : q.sessState ≠ .unlocked := by simp [State.sessState, hqSess]
  obtain ⟨v, hv, hvSent, hvCfg, hvSess, hvCalls⟩ := (rejected q hqCfg hqIssued).exists_next
  have hkey := (eq_keyOf_document_iff _ (highByte r.nextDraw) (lowByte r.nextDraw)).mp rfl
  obtain ⟨t, ht, htSent, -, htSess, htCalls⟩ :=
    ((keySubmitUnlocksExactlyOnEquality dev _ _ _ v (hvCfg.trans hqCfg) (hvSess.trans hqSess)).1 hkey).exists_next
  have htUnlocked : t.sessState = .unlocked := t.sessState_eq_unlocked_iff.mpr ⟨_, _, htSess⟩
  obtain ⟨f, hf, hqf⟩ := hqSent
  refine ⟨r, q, v, t, t.forward .upload dev 6#8 payload, _, _, _, hr, hrSent, hq, hqSess, hqCalls, ⟨f, ?_, ?_⟩, hv, hvSent,
    hkey, ht, htSent, ?_, ?_, ?_, t.forward_spec .upload dev 6#8 payload⟩
  · rwa [State.issueSeed_cfg, hrCfg] at hf
  · rw [Host.Outcome.next.inj hqf, State.issueSeed_tx]
  · rw [exec_mode6, State.gated_of_unlocked _ _ _ _ htUnlocked]
  · rw [State.forward_calls, htCalls, hvCalls, hqCalls]
  · rw [State.forward_sess, htSess]

end Machine
end Sys2Proof
end

section
/-! The decoder's rows for the length and the mode byte, and the sample frames (41_frame_codec.md R133, R134;
95_test_vectors.md). -/

namespace Sys2Proof

theorem rxLength_of_short {cfg : Config.Profile} {b : Byte} (dev : Byte) (h : b.toNat < cfg.lenBias + 1) :
    rxLength cfg dev b = .error .invalidLength :=
  if_pos h

theorem rxLength_of_legal {cfg : Config.Profile} {b : Byte} (dev : Byte) (h : cfg.lenBias + 1 ≤ b.toNat) :
    rxLength cfg dev b = .wait (.waitMode dev b) :=
  if_neg (Nat.not_lt.mpr h)

theorem rxMode_of_empty {cfg : Config.Profile} {len : Byte} (dev b : Byte) (h : announced cfg len = 0) :
    rxMode cfg dev len b = .waitChecksum dev len b [] :=
  if_pos h

theorem rxMode_of_nonempty {cfg : Config.Profile} {len : Byte} (dev b : Byte) (h : announced cfg len ≠ 0) :
    rxMode cfg dev len b = .waitPayload dev len b [] :=
  if_neg h

/-- Settles O5: the decoder run on each of the eight byte sequences. -/
theorem sampleFramesDecode : Obligations.SampleFramesDecode :=
  ⟨rfl, rfl, rfl, rfl, rfl, rfl, rfl, rfl⟩

namespace Machine

theorem exec_rxWaitLength {s : State} {dev : Byte} (b : Byte) (hrx : s.rx = .waitLength dev) :
    exec (.rxWaitLength b) s = s.received (rxLength s.cfg dev b) :=
  exec_decodeRx b hrx

theorem exec_rxWaitMode {s : State} {dev len : Byte} (b : Byte) (hrx : s.rx = .waitMode dev len) :
    exec (.rxWaitMode b) s = .next { s with rx := rxMode s.cfg dev len b } :=
  exec_decodeRx b hrx

theorem State.rxN_waitMode {s : State} {dev len : Byte} (hrx : s.rx = .waitMode dev len) :
    s.rxN = some (announced s.cfg len) := by
  simp only [State.rxN, State.rxLen, hrx, Option.map_some]

/-- Settles O12: a byte below LEN_BIAS + 1 ends the frame, any other is latched and announces the rest. -/
theorem lengthByteIsCheckedAndLatched : Obligations.LengthByteIsCheckedAndLatched := by
  intro s dev b hrx
  rw [exec_rxWaitLength b hrx]
  constructor
  · intro hshort
    rw [rxLength_of_short dev hshort]
    rfl
  · intro hlegal
    rw [rxLength_of_legal dev hlegal]
    refine ⟨_, rfl, rfl, ?_⟩
    rw [State.rxN_waitMode rfl, announced_eq, Nat.sub_sub]

/-- Settles O13: the mode byte is latched, and an announced payload of no bytes is passed through. -/
theorem modeByteIsLatchedUnchecked : Obligations.ModeByteIsLatchedUnchecked := by
  intro s dev len b hrx
  rw [exec_rxWaitMode b hrx, State.rxN_waitMode hrx, ne_eq, Option.some.injEq]
  constructor
  · intro hempty
    rw [rxMode_of_empty dev b hempty]
  · intro hnonempty
    rw [rxMode_of_nonempty dev b hnonempty]
    exact ⟨_, rfl, rfl, rfl⟩

end Machine
end Sys2Proof
end

section
/-! The events of the reset table (10_state.md R38, 60_exceptions.md R250 to R255). -/

namespace Sys2Proof
namespace Machine

/-- What each event writes: the session, the decoder or both (10_state.md R38). -/
def State.afterEvent (s : State) : Event → State
  | .powerOn => s.resetBlock
  | .connect => s.resetBlock
  | .busReset => s.resetBlock
  | .disconnect => s.resetBlock
  | .timeout => s.lockSession
  | .cancel => s.resetDecoder

theorem exec_event (e : Event) (s : State) : exec e.instr s = .next (s.afterEvent e) := by
  cases e <;> rfl

/-- What an event writes it writes again with the same value. -/
theorem State.afterEvent_afterEvent (s : State) (e : Event) : (s.afterEvent e).afterEvent e = s.afterEvent e := by
  cases e <;> rfl

/-- Settles O54: an event writes fixed values. -/
theorem eventsAreIdempotent : Obligations.EventsAreIdempotent := fun e s =>
  ⟨s.afterEvent e, exec_event e s, by rw [exec_event, State.afterEvent_afterEvent]⟩

/-- Settles O52: the four columns of the reset table. -/
theorem sessionEventsFollowTheResetTable : Obligations.SessionEventsFollowTheResetTable := fun s =>
  ⟨exec_event .connect s, exec_event .busReset s, exec_event .disconnect s, exec_event .timeout s⟩

/-- Settles O1: POWER_ON resets the block, and a resting decoder and a LOCKED session hold no latch. -/
theorem powerOnLeavesTheResetColumn : Obligations.PowerOnLeavesTheResetColumn :=
  ⟨rfl, rfl, rfl, fun s => ⟨s.resetBlock, exec_event .powerOn s, rfl, rfl, rfl, rfl, rfl, rfl, rfl, rfl, rfl⟩⟩

end Machine
end Sys2Proof
end
